-- ==== Sys2Proof/Word.lean ====
section
/-! DEFINITION. Sys2Proof/Word.lean: the two word sizes of the SM83 (00_scope.md R5, R6). -/

namespace Sys2Proof

/-- An 8-bit value: registers A to L and every bus access (R5 "data width", R6 `u8`). -/
abbrev Byte := BitVec 8

/-- A 16-bit value: pairs, SP, PC and addresses (R5 "pair width", "address width", R6 `u16`). -/
abbrev Word := BitVec 16

end Sys2Proof
end

