-- ==== Sys2Proof/Machine/Bits.lean ====
section
/-! DEFINITION. Sys2Proof/Machine/Bits.lean: the bit-field, sign-extension and byte-order helpers of
00_scope.md R6 and R7. -/

namespace Sys2Proof.Machine

/-- `cat(hi, lo)`: the 16-bit value `(hi << 8) | lo` (R6). -/
def cat (hi lo : Byte) : Word := hi ++ lo

/-- `hi8(v) = v[15:8]` (R6). -/
def hi8 (v : Word) : Byte := v.extractLsb' 8 8

/-- `lo8(v) = v[7:0]` (R6). -/
def lo8 (v : Word) : Byte := v.extractLsb' 0 8

/-- `sext_16(v)`: the two's-complement reading of a byte, as a 16-bit value (R7). -/
def sext16 (v : Byte) : Word := v.signExtend 16

/-- The low nibble `v[3:0]` as a number (R6). -/
def lowNibble (v : Byte) : Nat := v.toNat % 16

/-- One bit as a byte, 0 or 1 (`bool(c)`, R7). -/
def bitByte (b : Bool) : Byte := if b then 1 else 0

/-- The address of a high-page byte: `0xFF00 + n` (30_encoding.md R79). -/
def highPage (n : Byte) : Word := cat 0xFF n

end Sys2Proof.Machine
end

