-- ==== Sys2Proof/Config.lean ====
section
/-! DEFINITION. Sys2Proof/Config.lean: the implementation parameters of 00_scope.md R5, with their default
values, and the free values (draws) that the spec leaves open. A parameter with several allowed values is a
field of `Config`, which State carries unchanged, so a statement over every state holds for every value. A
draw is an opaque constant: nothing in Lean can evaluate it. -/

namespace Sys2Proof

/-- `CART_KIND` (R5): set from header byte 0x0147 (20_memory.md R70). -/
inductive CartKind
  | romOnly
  | mbc1
  deriving DecidableEq, Repr

/-- `EI_DELAY` (R5, 92_eei_decisions.md D7): 0 or 1 instruction. -/
inductive EiDelay
  | zero
  | one
  deriving DecidableEq, Repr

/-- `STOP_LENGTH` (R5, D9): 1 or 2 bytes. -/
inductive StopLength
  | one
  | two
  deriving DecidableEq, Repr

/-- `STOP_MODE` (R5, D9). -/
inductive StopMode
  | immediateWake
  | asHalt
  deriving DecidableEq, Repr

/-- `IO_UNASSIGNED` (R5, D14): an I/O address with no device is a storage cell or reads 0xFF. -/
inductive IoUnassigned
  | store
  | openFF
  deriving DecidableEq, Repr

/-- `LCD_OFF_MODEL` (R5, D29). -/
inductive LcdOffModel
  | ignored
  | refuse
  deriving DecidableEq, Repr

/-- `DMA_MODEL` (R5, D30). The spec names no copy rule, so REFUSE is its only value here. -/
inductive DmaModel
  | refuse
  deriving DecidableEq, Repr

/-- The parameters that stay fixed while the machine runs (R5). The cartridge's own parameters (`CART`,
`CART_KIND`, `ERAM_SIZE`) and `BOOT_IMAGE` stand in State beside it; `POST_BOOT` matters only when a state is
built (Machine/Cartridge.lean), and `RESET_RAM` is a draw (`Config.resetRam`), of which a load may give cells. -/
structure Config where
  eiDelay      : EiDelay
  stopLength   : StopLength
  stopMode     : StopMode
  ioUnassigned : IoUnassigned
  /-- `IE_HI`: bits 7:5 of a read of IE (D12). -/
  ieHi         : BitVec 3
  /-- `IF_HI`: bits 7:5 of a read of IF (D12). -/
  ifHi         : BitVec 3
  lcdOff       : LcdOffModel
  dma          : DmaModel
  deriving DecidableEq, Repr

/-- The defaults of R5's table. -/
def Config.default : Config where
  eiDelay      := .one
  stopLength   := .two
  stopMode     := .immediateWake
  ioUnassigned := .store
  ieHi         := 0b000
  ifHi         := 0b111
  lcdOff       := .ignored
  dma          := .refuse

/-- FREE VALUE `JOYPAD_IN` (R5, 10_state.md R30, 60_exceptions.md R233, D32): the host's button nibble. The
first argument counts system steps, the second numbers the reads within one step, so every read of P1 is a
fresh draw. Log entry 2. -/
opaque Config.joypadIn : Nat → Nat → BitVec 4

/-- FREE VALUE behind `MODE3_LEN(frame, line)` (R5, 60_exceptions.md R226, D27): the pixel-transfer length of
a visible line is 172 plus this draw, so it is any value in 172..289. Log entry 3. -/
opaque Config.mode3Extra : Nat → Nat → Fin 118

/-- FREE VALUE `RESET_RAM` (R5, 70_reset_and_hazards.md R240, D36): what a byte of VRAM, WRAM, OAM, HRAM or
ERAM holds from power-on until it is written, by its storage key. Log entry 1. -/
opaque Config.resetRam : Nat → Byte

/-- FREE VALUE: the draws of the registers A, F, B, C, D, E, H, L (numbered 0 to 7) at reset with a boot
image (10_state.md R35, D35). Log entry 4. -/
opaque Config.bootReg : Nat → Byte

/-- FREE VALUE: the draw of SP at reset with a boot image (10_state.md R35, D35). Log entry 4. -/
opaque Config.bootSp : Word

end Sys2Proof
end

