-- ==== Sys2Proof/Syntax.lean ====
section
/-! DEFINITION. Sys2Proof/Syntax.lean: the operand names (30_encoding.md R73 to R78) and the instructions, one constructor
for every row of opcode_table.json; the 11 invalid bytes share the row name INVALID and one constructor. The
main-table register, pair, bit and condition fields are part of a row's name; the operand bytes are arguments. -/

namespace Sys2Proof

/-- An 8-bit register operand (R73, all values but 6). -/
inductive Reg
  | b
  | c
  | d
  | e
  | h
  | l
  | a
  deriving DecidableEq, Repr

/-- An `r8` operand (R73): a register, or the byte at HL. -/
inductive R8
  | reg (r : Reg)
  | atHL
  deriving DecidableEq, Repr

/-- An `r16` operand (R74). -/
inductive R16
  | bc
  | de
  | hl
  | sp
  deriving DecidableEq, Repr

/-- An `r16stk` operand (R75). -/
inductive R16stk
  | bc
  | de
  | hl
  | af
  deriving DecidableEq, Repr

/-- An `r16mem` operand (R76). -/
inductive R16mem
  | bc
  | de
  | hlInc
  | hlDec
  deriving DecidableEq, Repr

/-- A condition (R77; 10_state.md R16). -/
inductive Cond
  | nz
  | z
  | nc
  | c
  deriving DecidableEq, Repr

/-- An ALU operation, in the order of R81. -/
inductive AluOp
  | add
  | adc
  | sub
  | sbc
  | and
  | xor
  | or
  | cp
  deriving DecidableEq, Repr

/-- A rotate or shift, in the order of R82. -/
inductive RotOp
  | rlc
  | rrc
  | rl
  | rr
  | sla
  | sra
  | swap
  | srl
  deriving DecidableEq, Repr

/-- A 3-bit field (R72): the bit index of BIT, RES and SET, or the y of RST's target `8 * y` (R78). -/
inductive Oct
  | i0
  | i1
  | i2
  | i3
  | i4
  | i5
  | i6
  | i7
  deriving DecidableEq, Repr

/-- The field's value. -/
def Oct.toNat : Oct → Nat
  | .i0 => 0
  | .i1 => 1
  | .i2 => 2
  | .i3 => 3
  | .i4 => 4
  | .i5 => 5
  | .i6 => 6
  | .i7 => 7

/-- The instructions (R81, R82). `at` in a name is the spec's parentheses: `ld_A_atHL` is `LD A,(HL)`; `atHLinc` and
`atHLdec` are `(HL+)` and `(HL-)`. Main-table rows first, in the order of their rules, then the CB table. -/
inductive Instr
  | ld_B_B
  | ld_B_C
  | ld_B_D
  | ld_B_E
  | ld_B_H
  | ld_B_L
  | ld_B_A
  | ld_C_B
  | ld_C_C
  | ld_C_D
  | ld_C_E
  | ld_C_H
  | ld_C_L
  | ld_C_A
  | ld_D_B
  | ld_D_C
  | ld_D_D
  | ld_D_E
  | ld_D_H
  | ld_D_L
  | ld_D_A
  | ld_E_B
  | ld_E_C
  | ld_E_D
  | ld_E_E
  | ld_E_H
  | ld_E_L
  | ld_E_A
  | ld_H_B
  | ld_H_C
  | ld_H_D
  | ld_H_E
  | ld_H_H
  | ld_H_L
  | ld_H_A
  | ld_L_B
  | ld_L_C
  | ld_L_D
  | ld_L_E
  | ld_L_H
  | ld_L_L
  | ld_L_A
  | ld_A_B
  | ld_A_C
  | ld_A_D
  | ld_A_E
  | ld_A_H
  | ld_A_L
  | ld_A_A
  | ld_B_atHL
  | ld_C_atHL
  | ld_D_atHL
  | ld_E_atHL
  | ld_H_atHL
  | ld_L_atHL
  | ld_A_atHL
  | ld_atHL_B
  | ld_atHL_C
  | ld_atHL_D
  | ld_atHL_E
  | ld_atHL_H
  | ld_atHL_L
  | ld_atHL_A
  | ld_B_d8 (n : Byte)
  | ld_C_d8 (n : Byte)
  | ld_D_d8 (n : Byte)
  | ld_E_d8 (n : Byte)
  | ld_H_d8 (n : Byte)
  | ld_L_d8 (n : Byte)
  | ld_A_d8 (n : Byte)
  | ld_atHL_d8 (n : Byte)
  | ld_A_atBC
  | ld_A_atDE
  | ld_atBC_A
  | ld_atDE_A
  | ld_A_atHLinc
  | ld_A_atHLdec
  | ld_atHLinc_A
  | ld_atHLdec_A
  | ld_A_ata16 (a : Word)
  | ld_ata16_A (a : Word)
  | ldh_A_ata8 (n : Byte)
  | ldh_ata8_A (n : Byte)
  | ld_A_atC
  | ld_atC_A
  | ld_BC_d16 (v : Word)
  | ld_DE_d16 (v : Word)
  | ld_HL_d16 (v : Word)
  | ld_SP_d16 (v : Word)
  | ld_ata16_SP (a : Word)
  | ld_SP_HL
  | push_BC
  | push_DE
  | push_HL
  | push_AF
  | pop_BC
  | pop_DE
  | pop_HL
  | pop_AF
  | add_A_B
  | add_A_C
  | add_A_D
  | add_A_E
  | add_A_H
  | add_A_L
  | add_A_A
  | add_A_atHL
  | add_A_d8 (n : Byte)
  | adc_A_B
  | adc_A_C
  | adc_A_D
  | adc_A_E
  | adc_A_H
  | adc_A_L
  | adc_A_A
  | adc_A_atHL
  | adc_A_d8 (n : Byte)
  | sub_A_B
  | sub_A_C
  | sub_A_D
  | sub_A_E
  | sub_A_H
  | sub_A_L
  | sub_A_A
  | sub_A_atHL
  | sub_A_d8 (n : Byte)
  | sbc_A_B
  | sbc_A_C
  | sbc_A_D
  | sbc_A_E
  | sbc_A_H
  | sbc_A_L
  | sbc_A_A
  | sbc_A_atHL
  | sbc_A_d8 (n : Byte)
  | and_A_B
  | and_A_C
  | and_A_D
  | and_A_E
  | and_A_H
  | and_A_L
  | and_A_A
  | and_A_atHL
  | and_A_d8 (n : Byte)
  | xor_A_B
  | xor_A_C
  | xor_A_D
  | xor_A_E
  | xor_A_H
  | xor_A_L
  | xor_A_A
  | xor_A_atHL
  | xor_A_d8 (n : Byte)
  | or_A_B
  | or_A_C
  | or_A_D
  | or_A_E
  | or_A_H
  | or_A_L
  | or_A_A
  | or_A_atHL
  | or_A_d8 (n : Byte)
  | cp_A_B
  | cp_A_C
  | cp_A_D
  | cp_A_E
  | cp_A_H
  | cp_A_L
  | cp_A_A
  | cp_A_atHL
  | cp_A_d8 (n : Byte)
  | inc_B
  | inc_C
  | inc_D
  | inc_E
  | inc_H
  | inc_L
  | inc_A
  | inc_atHL
  | dec_B
  | dec_C
  | dec_D
  | dec_E
  | dec_H
  | dec_L
  | dec_A
  | dec_atHL
  | daa
  | cpl
  | scf
  | ccf
  | inc_BC
  | inc_DE
  | inc_HL
  | inc_SP
  | dec_BC
  | dec_DE
  | dec_HL
  | dec_SP
  | add_HL_BC
  | add_HL_DE
  | add_HL_HL
  | add_HL_SP
  | add_SP_e8 (e : Byte)
  | ld_HL_SPe8 (e : Byte)
  | rlca
  | rrca
  | rla
  | rra
  | jp_a16 (a : Word)
  | jp_NZ_a16 (a : Word)
  | jp_Z_a16 (a : Word)
  | jp_NC_a16 (a : Word)
  | jp_C_a16 (a : Word)
  | jp_HL
  | jr_e8 (e : Byte)
  | jr_NZ_e8 (e : Byte)
  | jr_Z_e8 (e : Byte)
  | jr_NC_e8 (e : Byte)
  | jr_C_e8 (e : Byte)
  | call_a16 (a : Word)
  | call_NZ_a16 (a : Word)
  | call_Z_a16 (a : Word)
  | call_NC_a16 (a : Word)
  | call_C_a16 (a : Word)
  | ret
  | ret_NZ
  | ret_Z
  | ret_NC
  | ret_C
  | reti
  | rst_00
  | rst_08
  | rst_10
  | rst_18
  | rst_20
  | rst_28
  | rst_30
  | rst_38
  | invalid (op : Byte)
  | nop
  | halt
  | stop
  | di
  | ei
  | prefixCb
  | rlc_B
  | rlc_C
  | rlc_D
  | rlc_E
  | rlc_H
  | rlc_L
  | rlc_A
  | rlc_atHL
  | rrc_B
  | rrc_C
  | rrc_D
  | rrc_E
  | rrc_H
  | rrc_L
  | rrc_A
  | rrc_atHL
  | rl_B
  | rl_C
  | rl_D
  | rl_E
  | rl_H
  | rl_L
  | rl_A
  | rl_atHL
  | rr_B
  | rr_C
  | rr_D
  | rr_E
  | rr_H
  | rr_L
  | rr_A
  | rr_atHL
  | sla_B
  | sla_C
  | sla_D
  | sla_E
  | sla_H
  | sla_L
  | sla_A
  | sla_atHL
  | sra_B
  | sra_C
  | sra_D
  | sra_E
  | sra_H
  | sra_L
  | sra_A
  | sra_atHL
  | swap_B
  | swap_C
  | swap_D
  | swap_E
  | swap_H
  | swap_L
  | swap_A
  | swap_atHL
  | srl_B
  | srl_C
  | srl_D
  | srl_E
  | srl_H
  | srl_L
  | srl_A
  | srl_atHL
  | bit_0_B
  | bit_0_C
  | bit_0_D
  | bit_0_E
  | bit_0_H
  | bit_0_L
  | bit_0_A
  | bit_1_B
  | bit_1_C
  | bit_1_D
  | bit_1_E
  | bit_1_H
  | bit_1_L
  | bit_1_A
  | bit_2_B
  | bit_2_C
  | bit_2_D
  | bit_2_E
  | bit_2_H
  | bit_2_L
  | bit_2_A
  | bit_3_B
  | bit_3_C
  | bit_3_D
  | bit_3_E
  | bit_3_H
  | bit_3_L
  | bit_3_A
  | bit_4_B
  | bit_4_C
  | bit_4_D
  | bit_4_E
  | bit_4_H
  | bit_4_L
  | bit_4_A
  | bit_5_B
  | bit_5_C
  | bit_5_D
  | bit_5_E
  | bit_5_H
  | bit_5_L
  | bit_5_A
  | bit_6_B
  | bit_6_C
  | bit_6_D
  | bit_6_E
  | bit_6_H
  | bit_6_L
  | bit_6_A
  | bit_7_B
  | bit_7_C
  | bit_7_D
  | bit_7_E
  | bit_7_H
  | bit_7_L
  | bit_7_A
  | bit_0_atHL
  | bit_1_atHL
  | bit_2_atHL
  | bit_3_atHL
  | bit_4_atHL
  | bit_5_atHL
  | bit_6_atHL
  | bit_7_atHL
  | res_0_B
  | res_0_C
  | res_0_D
  | res_0_E
  | res_0_H
  | res_0_L
  | res_0_A
  | res_1_B
  | res_1_C
  | res_1_D
  | res_1_E
  | res_1_H
  | res_1_L
  | res_1_A
  | res_2_B
  | res_2_C
  | res_2_D
  | res_2_E
  | res_2_H
  | res_2_L
  | res_2_A
  | res_3_B
  | res_3_C
  | res_3_D
  | res_3_E
  | res_3_H
  | res_3_L
  | res_3_A
  | res_4_B
  | res_4_C
  | res_4_D
  | res_4_E
  | res_4_H
  | res_4_L
  | res_4_A
  | res_5_B
  | res_5_C
  | res_5_D
  | res_5_E
  | res_5_H
  | res_5_L
  | res_5_A
  | res_6_B
  | res_6_C
  | res_6_D
  | res_6_E
  | res_6_H
  | res_6_L
  | res_6_A
  | res_7_B
  | res_7_C
  | res_7_D
  | res_7_E
  | res_7_H
  | res_7_L
  | res_7_A
  | res_0_atHL
  | res_1_atHL
  | res_2_atHL
  | res_3_atHL
  | res_4_atHL
  | res_5_atHL
  | res_6_atHL
  | res_7_atHL
  | set_0_B
  | set_0_C
  | set_0_D
  | set_0_E
  | set_0_H
  | set_0_L
  | set_0_A
  | set_1_B
  | set_1_C
  | set_1_D
  | set_1_E
  | set_1_H
  | set_1_L
  | set_1_A
  | set_2_B
  | set_2_C
  | set_2_D
  | set_2_E
  | set_2_H
  | set_2_L
  | set_2_A
  | set_3_B
  | set_3_C
  | set_3_D
  | set_3_E
  | set_3_H
  | set_3_L
  | set_3_A
  | set_4_B
  | set_4_C
  | set_4_D
  | set_4_E
  | set_4_H
  | set_4_L
  | set_4_A
  | set_5_B
  | set_5_C
  | set_5_D
  | set_5_E
  | set_5_H
  | set_5_L
  | set_5_A
  | set_6_B
  | set_6_C
  | set_6_D
  | set_6_E
  | set_6_H
  | set_6_L
  | set_6_A
  | set_7_B
  | set_7_C
  | set_7_D
  | set_7_E
  | set_7_H
  | set_7_L
  | set_7_A
  | set_0_atHL
  | set_1_atHL
  | set_2_atHL
  | set_3_atHL
  | set_4_atHL
  | set_5_atHL
  | set_6_atHL
  | set_7_atHL
  deriving DecidableEq, Repr

end Sys2Proof
end

