-- ==== Sys2Proof/Machine/State.lean ====
section
/-! DEFINITION. Sys2Proof/Machine/State.lean: every piece of state the spec gives the machine (10_state.md R10
to R35), the faults and refusals, and the state right after reset (R34, 70_reset_and_hazards.md R238 to
R240). Fields that are the model's own and not the spec's are marked MODEL. -/

namespace Sys2Proof.Machine

/-- The four flag bits of F (R14). Bits 3:0 of F are no storage: they always read 0. -/
structure Flags where
  z : Bool
  n : Bool
  h : Bool
  c : Bool
  deriving DecidableEq, Repr

/-- The CPU's state-machine state (R19). -/
inductive RunState
  | running
  | halted
  | stopped
  deriving DecidableEq, Repr

/-- The recorded fault `InvalidOpcode(byte, addr)` (R20). -/
structure InvalidOpcode where
  byte : Byte
  addr : Word
  deriving DecidableEq, Repr

/-- The CPU: registers (R10 to R14), IME (R17), `ei_pending` (R18), `run` (R19) and `fault` (R20). -/
structure Cpu where
  a : Byte
  b : Byte
  c : Byte
  d : Byte
  e : Byte
  h : Byte
  l : Byte
  flags : Flags
  sp : Word
  pc : Word
  ime : Bool
  eiPending : Bool
  run : RunState
  fault : Option InvalidOpcode
  deriving DecidableEq, Repr

/-- The interrupt controller: IE[4:0] (R21) and IF[4:0] (R22). -/
structure Irq where
  enable : BitVec 5
  request : BitVec 5
  deriving DecidableEq, Repr

/-- The timer: DIV, TIMA, TMA, TAC[2:0] (R24) and the hidden accumulators (R25). -/
structure Timer where
  div : Byte
  tima : Byte
  tma : Byte
  tac : BitVec 3
  divAcc : Nat
  timaAcc : Nat
  deriving DecidableEq, Repr

/-- The bank controller's four fields (R26). -/
structure Mbc where
  romLo5 : BitVec 5
  bank2 : BitVec 2
  ramEnable : Bool
  bankMode : Bool
  deriving DecidableEq, Repr

/-- The PPU's CPU-visible registers (R28) and its position (R29). `ppu_mode` is a function of `ly`, `dot` and
`mode3Len` (R29, 60_exceptions.md R226) and is computed (`Ppu.mode`). -/
structure Ppu where
  lcdc : Byte
  /-- STAT[6:3], the four interrupt-enable bits. -/
  statEnable : BitVec 4
  /-- STAT[2], the LY=LYC coincidence. -/
  lycMatch : Bool
  scy : Byte
  scx : Byte
  ly : Byte
  lyc : Byte
  bgp : Byte
  obp0 : Byte
  obp1 : Byte
  wy : Byte
  wx : Byte
  dot : Nat
  mode3Len : Nat
  frames : Nat
  deriving DecidableEq, Repr

/-- Bytes by key: a list of (key, byte) pairs in one canonical form (Machine/Memory.lean). -/
abbrev Memory := List Host.Cell

/-- The cartridge: `CART` (its length, and the bytes of the image that are not 0x00, by offset), `CART_KIND` and
`ERAM_SIZE` (R31, 00_scope.md R5, 20_memory.md R70). Configuration: no step writes it. -/
structure Cart where
  size : Nat
  image : Memory
  kind : CartKind
  eramSize : Nat
  deriving DecidableEq, Repr

/-- The whole machine. -/
structure State where
  cpu : Cpu
  irq : Irq
  timer : Timer
  mbc : Mbc
  ppu : Ppu
  /-- P1[5:4], the joypad select lines (R30). -/
  p1Select : BitVec 2
  /-- `boot_mapped` (R27). -/
  bootMapped : Bool
  /-- VRAM, WRAM, OAM, HRAM, the IO cells (each under its bus address) and the `ERAM_SIZE` bytes of ERAM (offset o
  under key 0x10000 + o) (R31). -/
  mem : Memory
  cart : Cart
  /-- `BOOT_IMAGE` (R31): configuration, never written. -/
  boot : Option (Vector Byte 256)
  /-- The parameters of 00_scope.md R5: configuration, never written. -/
  config : Config
  /-- What the CPU step returned: the cycle count of the last instruction, dispatch or wait (R209, R221). -/
  cycles : Nat
  /-- How many `UnsupportedBankingMode` warnings have been emitted since reset (R219, R221). -/
  warnings : Nat
  /-- MODEL: a CPU write has reached 0xFF46 under `DMA_MODEL = REFUSE`; the step that made it is refused (R232). -/
  dmaWritten : Bool
  /-- MODEL: what the host's joypad collaborator will do before each coming step, the next one first: `true` is
  `JoypadChange` (R233), `false` or the end of the list is nothing. -/
  joypadEvents : List Bool
  /-- MODEL: the counter behind the draws of `JOYPAD_IN`: one more for every system step. -/
  draws : Nat
  deriving DecidableEq, Repr

/-- Why the machine stops. -/
inductive Fault
  /-- `InvalidOpcode(byte, addr)` (R20, 45_system.md R204, 60_exceptions.md R217). Raised by the decode of one of the
  11 invalid main-table bytes, and again by every later step of a state whose `fault` is recorded. It is the only
  fault of the spec. Safe: it is the outcome the spec itself gives. -/
  | invalidOpcode (byte : Byte) (addr : Word)
  deriving DecidableEq, Repr

/-- Why a step has no meaning in this model. -/
inductive Refusal
  /-- An instruction that has no meaning yet, by its mnemonic. Raised by no arm: every instruction has its meaning.
  Safe. -/
  | notModelled (mnemonic : String)
  /-- `Unsupported("OAM DMA")` (R221, R232). Raised by a system step whose CPU step wrote 0xFF46, and by every later
  step of such a state. Safe: the spec gives no state past it (93_implementation_defined.md U12, U22). -/
  | oamDma
  /-- `Unsupported("LCD off")` (R221, R231). Raised by a system step that ends with LCDC[7] = 0 when `LCD_OFF_MODEL`
  is REFUSE (it is IGNORED by default). Safe: the spec gives no state past it (U13, U22). -/
  | lcdOff
  deriving DecidableEq, Repr

/-- The outcome of an instruction or a step of this machine. -/
abbrev Result := Host.Outcome State Fault Refusal

/-- The cartridge of `State.reset`: an image of 32768 zero bytes, which the load accepts as a ROM-only cartridge
without RAM (20_memory.md R70). DESIGN CHOICE, log entry 5: the spec makes `CART` an argument. -/
def Cart.blank : Cart where
  size     := 0x8000
  image    := []
  kind     := .romOnly
  eramSize := 0

/-- The CPU right after reset without a boot image (R34). -/
def Cpu.reset : Cpu where
  a := 0x01
  b := 0x00
  c := 0x13
  d := 0x00
  e := 0xD8
  h := 0x01
  l := 0x4D
  flags := { z := true, n := false, h := true, c := true }
  sp := 0xFFFE
  pc := 0x0100
  ime := false
  eiPending := false
  run := .running
  fault := none

/-- The interrupt controller right after reset without a boot image (R34). -/
def Irq.reset : Irq where
  enable := 0
  request := 1

/-- The timer right after reset without a boot image (R34). -/
def Timer.reset : Timer where
  div := 0xAB
  tima := 0x00
  tma := 0x00
  tac := 0
  divAcc := 0
  timaAcc := 0

/-- The bank controller right after reset (R34, R239). -/
def Mbc.reset : Mbc where
  romLo5 := 1
  bank2 := 0
  ramEnable := false
  bankMode := false

/-- The PPU right after reset without a boot image (R34, R239). STAT[2] is 0: the spec gives no reset value for
that bit (log entry 6). `mode3Len` is the draw `MODE3_LEN(0, 0)`. -/
def Ppu.reset : Ppu where
  lcdc := 0x91
  statEnable := 0
  lycMatch := false
  scy := 0
  scx := 0
  ly := 0
  lyc := 0
  bgp := 0xFC
  obp0 := 0xFF
  obp1 := 0xFF
  wy := 0
  wx := 0
  dot := 0
  mode3Len := (Config.mode3Extra 0 0).val + 172
  frames := 0

/-- The machine right after reset, with no boot image and every parameter at its default (R34, R238 to R240). DESIGN
CHOICE, log entry 24: R34 contradicts itself on P1, whose bits 5:4 it gives as 11 beside a read of 0xCF, which by R30 needs
them 00; they are 11 here. -/
def State.reset : State where
  cpu := Cpu.reset
  irq := Irq.reset
  timer := Timer.reset
  mbc := Mbc.reset
  ppu := Ppu.reset
  p1Select := 0b11
  bootMapped := false
  mem := []
  cart := Cart.blank
  boot := none
  config := Config.default
  cycles := 0
  warnings := 0
  dmaWritten := false
  joypadEvents := []
  draws := 0

end Sys2Proof.Machine
end

