-- ==== Sys2Proof/Machine/Memory.lean ====
section
/-! DEFINITION. Sys2Proof/Machine/Memory.lean: the storage behind the bus (10_state.md R31) as a list of (key,
byte) pairs in one canonical form: keys strictly rising, and no entry that is known to equal what its key reads as
unlisted. -/

namespace Sys2Proof.Machine

/-- The keys of the IO cells: their bus addresses (10_state.md R31). -/
def Memory.isIoKey (k : Nat) : Bool :=
  decide (0xFF00 ≤ k) && decide (k < 0xFF80)

/-- The keys of VRAM, WRAM, OAM and HRAM (their bus addresses) and of the `ERAM_SIZE` bytes of ERAM (from 0x10000 on)
(10_state.md R31): the arrays that `RESET_RAM` fills (00_scope.md R5). -/
def Memory.isRamKey (eramSize k : Nat) : Bool :=
  (decide (0x8000 ≤ k) && decide (k < 0xA000)) || (decide (0xC000 ≤ k) && decide (k < 0xE000))
    || (decide (0xFE00 ≤ k) && decide (k < 0xFEA0)) || (decide (0xFF80 ≤ k) && decide (k < 0xFFFF))
    || (decide (0x10000 ≤ k) && decide (k < 0x10000 + eramSize))

/-- The keys that R31's arrays occupy. -/
def Memory.isStorageKey (eramSize k : Nat) : Bool :=
  Memory.isIoKey k || Memory.isRamKey eramSize k

/-- What an unlisted key reads as: an IO cell holds 0xFF (10_state.md R34, 70_reset_and_hazards.md R240); every other
byte holds its draw of `RESET_RAM` until it is written, a free value (log entry 1). -/
def Memory.unlisted (k : Nat) : Byte :=
  if Memory.isIoKey k then 0xFF else Config.resetRam k

/-- Whether an entry says nothing: an IO cell at the 0xFF that it reads as unlisted. An entry of RAM always says
something, since a draw has no known value. -/
def Memory.redundant (k : Nat) (v : Byte) : Bool :=
  Memory.isIoKey k && v == 0xFF

/-- The byte listed under a key, if any. -/
def Memory.lookup : Memory → Nat → Option Byte
  | [], _ => none
  | (k, v) :: m, a => if a = k then some v else Memory.lookup m a

/-- The byte stored under a key. -/
def Memory.read (m : Memory) (a : Nat) : Byte :=
  (Memory.lookup m a).getD (Memory.unlisted a)

/-- Removes the entry of a key. -/
def Memory.erase : Memory → Nat → Memory
  | [], _ => []
  | (k, v) :: m, a => if a = k then Memory.erase m a else (k, v) :: Memory.erase m a

/-- Lists a key before the first greater one. -/
def Memory.insert : Memory → Nat → Byte → Memory
  | [], a, v => [(a, v)]
  | (k, w) :: m, a, v => if a < k then (a, v) :: (k, w) :: m else (k, w) :: Memory.insert m a v

/-- Stores a byte under a key and keeps the canonical form: a redundant entry is not listed. -/
def Memory.write (m : Memory) (a : Nat) (v : Byte) : Memory :=
  if Memory.redundant a v then Memory.erase m a else Memory.insert (Memory.erase m a) a v

/-- Every key of the list is above `k`, and the keys rise strictly. -/
def Memory.risesFrom : Memory → Nat → Bool
  | [], _ => true
  | (k, _) :: m, low => decide (low ≤ k) && Memory.risesFrom m (k + 1)

/-- The canonical form. -/
def Memory.wf (m : Memory) : Bool :=
  Memory.risesFrom m 0 && m.all (fun cell => !Memory.redundant cell.1 cell.2)

/-- The storage right after reset (70_reset_and_hazards.md R240): the IO cells hold 0xFF, and RAM holds `RESET_RAM`, of
which `ram` gives some cells. Cells of `ram` under other keys are not RAM and are dropped. -/
def Memory.atReset (eramSize : Nat) : Memory → Memory
  | [] => []
  | (k, v) :: ram =>
    if Memory.isRamKey eramSize k then Memory.write (Memory.atReset eramSize ram) k v
    else Memory.atReset eramSize ram

/-- The canonical form of a cartridge: image offsets strictly rising, all inside the image, no entry 0x00; and
`ERAM_SIZE` one of the four values of 00_scope.md R5. -/
def Cart.wf (c : Cart) : Bool :=
  [0, 2048, 8192, 32768].contains c.eramSize && Memory.risesFrom c.image 0 && c.image.all (fun cell => cell.2 != 0 && decide (cell.1 < c.size))

/-- The cartridge with one more byte of its image given. No step does this: a load builds a cartridge with it. -/
def Cart.withByte (c : Cart) (o : Nat) (v : Byte) : Cart :=
  { c with size := max c.size (o + 1)
           image := if v = 0 then Memory.erase c.image o
                    else Memory.insert (Memory.erase c.image o) o v }

/-- `CartByte(o)`: `CART[o]` if `o < len(CART)`, and 0xFF otherwise (20_memory.md R42, R48). -/
def Cart.byte (c : Cart) (o : Nat) : Byte :=
  if o < c.size then (Memory.lookup c.image o).getD 0x00 else 0xFF

end Sys2Proof.Machine
end

