-- ==== Sys2Proof/Machine/Bus.lean ====
section
/-! DEFINITION. Sys2Proof/Machine/Bus.lean: the bus decoder (20_memory.md R36 to R57): the address map, reads,
writes, the cartridge's bank controller, and the I/O registers as the CPU sees them. -/

namespace Sys2Proof.Machine

/-- The rows of the address map (R37); boot image and ROM bank 0 share the first. -/
inductive Region
  | rom0
  | romWindow
  | vram
  | eram
  | wram
  | echo
  | oam
  | unmapped
  | io
  | hram
  | ie
  deriving DecidableEq, Repr

/-- The address map (R37): "address→region mapping is total and pure". -/
def region (a : Word) : Region :=
  if a.toNat ≤ 0x3FFF then .rom0
  else if a.toNat ≤ 0x7FFF then .romWindow
  else if a.toNat ≤ 0x9FFF then .vram
  else if a.toNat ≤ 0xBFFF then .eram
  else if a.toNat ≤ 0xDFFF then .wram
  else if a.toNat ≤ 0xFDFF then .echo
  else if a.toNat ≤ 0xFE9F then .oam
  else if a.toNat ≤ 0xFEFF then .unmapped
  else if a.toNat ≤ 0xFF7F then .io
  else if a.toNat ≤ 0xFFFE then .hram
  else .ie

/-- The registers of the I/O block (R54). -/
inductive IoReg
  | p1
  | div
  | tima
  | tma
  | tac
  | intFlag
  | lcdc
  | stat
  | scy
  | scx
  | ly
  | lyc
  | dma
  | bgp
  | obp0
  | obp1
  | wy
  | wx
  | unassigned
  deriving DecidableEq, Repr

/-- The register at an I/O address (R54; 10_state.md R22, R24, R28, R30). -/
def ioReg (a : Word) : IoReg :=
  if a = 0xFF00 then .p1
  else if a = 0xFF04 then .div
  else if a = 0xFF05 then .tima
  else if a = 0xFF06 then .tma
  else if a = 0xFF07 then .tac
  else if a = 0xFF0F then .intFlag
  else if a = 0xFF40 then .lcdc
  else if a = 0xFF41 then .stat
  else if a = 0xFF42 then .scy
  else if a = 0xFF43 then .scx
  else if a = 0xFF44 then .ly
  else if a = 0xFF45 then .lyc
  else if a = 0xFF46 then .dma
  else if a = 0xFF47 then .bgp
  else if a = 0xFF48 then .obp0
  else if a = 0xFF49 then .obp1
  else if a = 0xFF4A then .wy
  else if a = 0xFF4B then .wx
  else .unassigned

/-! ### Cartridge -/

/-- The effective ROM bank of the switchable window, `(bank2 << 5) | rom_lo5` (R47). -/
def Mbc.romBank (m : Mbc) : Nat :=
  (m.bank2 ++ m.romLo5).toNat

/-- The image offset that an address of the ROM region shows (R42 for a ROM-only cartridge, R47 for MBC1). -/
def romOffset (s : State) (a : Word) : Nat :=
  match s.cart.kind with
  | .romOnly => a.toNat
  | .mbc1 =>
    if a.toNat ≤ 0x3FFF then a.toNat else s.mbc.romBank * 0x4000 + (a - 0x4000).toNat

/-- `RomRead(a)` (R42, R47). -/
def romRead (s : State) (a : Word) : Byte :=
  s.cart.byte (romOffset s a)

/-- Whether the external-RAM window answers at an address: MBC1, enabled, and inside `ERAM_SIZE` (R42, R49). -/
def eramAnswers (s : State) (a : Word) : Bool :=
  s.cart.kind == .mbc1 && s.mbc.ramEnable && decide ((a - 0xA000).toNat < s.cart.eramSize)

/-- The storage key of an external-RAM address: RAM bank 0 (R49). -/
def eramKey (a : Word) : Nat :=
  0x10000 + (a - 0xA000).toNat

/-- `EramRead(a)` (R42, R49). -/
def eramRead (s : State) (a : Word) : Byte :=
  if eramAnswers s a then Memory.read s.mem (eramKey a) else 0xFF

/-- `EramWrite(a, v)` (R42, R49). -/
def eramWrite (s : State) (a : Word) (v : Byte) : State :=
  if eramAnswers s a then { s with mem := Memory.write s.mem (eramKey a) v } else s

/-- The four command windows of the MBC1 (R43 to R46). -/
def mbcCommand (m : Mbc) (a : Word) (v : Byte) : Mbc :=
  if a.toNat ≤ 0x1FFF then { m with ramEnable := lowNibble v == 0xA }
  else if a.toNat ≤ 0x3FFF then
    { m with romLo5 := if v.extractLsb' 0 5 = 0 then 1 else v.extractLsb' 0 5 }
  else if a.toNat ≤ 0x5FFF then { m with bank2 := v.extractLsb' 0 2 }
  else { m with bankMode := v.getLsbD 0 }

/-- Whether a write to the ROM region makes the controller log `UnsupportedBankingMode`: it stores
`bank_mode = 1` (R46, R219). -/
def modeWarning (a : Word) (v : Byte) : Bool :=
  decide (0x6000 ≤ a.toNat) && v.getLsbD 0

/-- `BankCommand(a, v)` (R39): a write to the ROM region stores nothing. -/
def bankCommand (s : State) (a : Word) (v : Byte) : State :=
  match s.cart.kind with
  | .romOnly => s
  | .mbc1 =>
    { s with mbc := mbcCommand s.mbc a v
             warnings := if modeWarning a v then s.warnings + 1 else s.warnings }

/-! ### PPU mode -/

/-- The PPU modes (R226). -/
inductive PpuMode
  | hblank
  | vblank
  | oamSearch
  | transfer
  deriving DecidableEq, Repr

/-- The mode numbers that STAT bits 1:0 read (10_state.md R28). -/
def PpuMode.code : PpuMode → BitVec 2
  | .hblank => 0
  | .vblank => 1
  | .oamSearch => 2
  | .transfer => 3

/-- Lines 144 and on are V-blank (R226). -/
def Ppu.inVblank (p : Ppu) : Bool :=
  decide (144 ≤ p.ly.toNat)

/-- `ModeOf(LY, dot)` (R226), which is `ppu_mode` (10_state.md R29). -/
def Ppu.mode (p : Ppu) : PpuMode :=
  if p.inVblank then .vblank
  else if p.dot < 80 then .oamSearch
  else if p.dot < p.mode3Len + 80 then .transfer
  else .hblank

/-! ### I/O registers -/

/-- STAT as the CPU reads it (R230). -/
def Ppu.statByte (p : Ppu) : Byte :=
  1#1 ++ p.statEnable ++ BitVec.ofBool p.lycMatch ++ p.mode.code

/-- A read of an I/O register. `joy` is the nibble that P1's bits 3:0 return (10_state.md R30). -/
def ioRead (joy : BitVec 4) (s : State) (a : Word) : Byte :=
  match ioReg a with
  | .p1 => 0b11#2 ++ s.p1Select ++ joy
  | .div => s.timer.div
  | .tima => s.timer.tima
  | .tma => s.timer.tma
  | .tac => 0b11111#5 ++ s.timer.tac
  | .intFlag => s.config.ifHi ++ s.irq.request
  | .lcdc => s.ppu.lcdc
  | .stat => s.ppu.statByte
  | .scy => s.ppu.scy
  | .scx => s.ppu.scx
  | .ly => s.ppu.ly
  | .lyc => s.ppu.lyc
  | .dma => Memory.read s.mem a.toNat
  | .bgp => s.ppu.bgp
  | .obp0 => s.ppu.obp0
  | .obp1 => s.ppu.obp1
  | .wy => s.ppu.wy
  | .wx => s.ppu.wx
  | .unassigned =>
    match s.config.ioUnassigned with
    | .store => Memory.read s.mem a.toNat
    | .openFF => 0xFF

/-- A write of an I/O register (10_state.md R22, R30; 60_exceptions.md R225, R230, R232; 20_memory.md R55). -/
def ioWrite (s : State) (a : Word) (v : Byte) : State :=
  match ioReg a with
  | .p1 => { s with p1Select := v.extractLsb' 4 2 }
  | .div => { s with timer := { s.timer with div := 0, divAcc := 0 } }
  | .tima => { s with timer := { s.timer with tima := v } }
  | .tma => { s with timer := { s.timer with tma := v } }
  | .tac => { s with timer := { s.timer with tac := v.extractLsb' 0 3 } }
  | .intFlag => { s with irq := { s.irq with request := v.extractLsb' 0 5 } }
  | .lcdc => { s with ppu := { s.ppu with lcdc := v } }
  | .stat => { s with ppu := { s.ppu with statEnable := v.extractLsb' 3 4 } }
  | .scy => { s with ppu := { s.ppu with scy := v } }
  | .scx => { s with ppu := { s.ppu with scx := v } }
  | .ly => s
  | .lyc => { s with ppu := { s.ppu with lyc := v } }
  | .dma =>
    match s.config.dma with
    | .refuse => { s with dmaWritten := true }
  | .bgp => { s with ppu := { s.ppu with bgp := v } }
  | .obp0 => { s with ppu := { s.ppu with obp0 := v } }
  | .obp1 => { s with ppu := { s.ppu with obp1 := v } }
  | .wy => { s with ppu := { s.ppu with wy := v } }
  | .wx => { s with ppu := { s.ppu with wx := v } }
  | .unassigned =>
    match s.config.ioUnassigned with
    | .store => { s with mem := Memory.write s.mem a.toNat v }
    | .openFF => s

/-! ### The bus -/

/-- The boot overlay's byte at an address, while it is mapped (R38, R40). -/
def bootByte (s : State) (a : Word) : Option Byte :=
  match s.bootMapped, s.boot with
  | true, some image => image[a.toNat]?
  | _, _ => none

/-- The address whose cell an address names: an echo address names the work-RAM cell 0x2000 below it (R51). -/
def mirrored (a : Word) : Word :=
  if region a = .echo then a - 0x2000 else a

/-- `MemRead(a, 1)` (R38), as a pure function: the joypad nibble that a read of P1 returns is an argument. -/
def busRead (joy : BitVec 4) (s : State) (a : Word) : Byte :=
  match bootByte s a with
  | some v => v
  | none =>
    match region a with
    | .rom0 | .romWindow => romRead s a
    | .vram | .wram | .echo | .oam | .hram => Memory.read s.mem (mirrored a).toNat
    | .eram => eramRead s a
    | .unmapped => 0xFF
    | .io => ioRead joy s a
    | .ie => s.config.ieHi ++ s.irq.enable

/-- `MemWrite(a, 1, v)` (R39). -/
def busWrite (s : State) (a : Word) (v : Byte) : State :=
  match region a with
  | .rom0 | .romWindow => bankCommand s a v
  | .vram | .wram | .echo | .oam | .hram => { s with mem := Memory.write s.mem (mirrored a).toNat v }
  | .eram => eramWrite s a v
  | .unmapped => s
  | .io => ioWrite s a v
  | .ie => { s with irq := { s.irq with enable := v.extractLsb' 0 5 } }

end Sys2Proof.Machine
end

