-- ==== Sys2Proof/Machine/Flags.lean ====
section
/-! DEFINITION. Sys2Proof/Machine/Flags.lean: the F register's views and every result and flag computation of the
spec (00_scope.md R9; 10_state.md R14; 41_alu8.md, 42_alu16.md, 43_rotate_shift_bit.md). -/

namespace Sys2Proof.Machine

/-! ### The F register (R14) -/

/-- F as a byte: Z N H C in bits 7 to 4, bits 3:0 zero (R14). -/
def Flags.toByte (f : Flags) : Byte :=
  BitVec.ofBool f.z ++ BitVec.ofBool f.n ++ BitVec.ofBool f.h ++ BitVec.ofBool f.c ++ 0#4

/-- A write of a byte to F stores `v & 0xF0` (R14). -/
def Flags.ofByte (v : Byte) : Flags where
  z := v.getLsbD 7
  n := v.getLsbD 6
  h := v.getLsbD 5
  c := v.getLsbD 4

/-! ### Carries and borrows (R9) -/

/-- `carry8(a, b, c)`. -/
def carry8 (a b : Byte) (c : Bool) : Bool :=
  decide (a.toNat + b.toNat + c.toNat > 0xFF)

/-- `half8(a, b, c)`. -/
def half8 (a b : Byte) (c : Bool) : Bool :=
  decide (lowNibble a + lowNibble b + c.toNat > 0xF)

/-- `borrow8(a, b, c)`. -/
def borrow8 (a b : Byte) (c : Bool) : Bool :=
  decide (a.toNat < b.toNat + c.toNat)

/-- `hborrow8(a, b, c)`. -/
def hborrow8 (a b : Byte) (c : Bool) : Bool :=
  decide (lowNibble a < lowNibble b + c.toNat)

/-- `carry16(a, b)`. -/
def carry16 (a b : Word) : Bool :=
  decide (a.toNat + b.toNat > 0xFFFF)

/-- `half16(a, b)`. -/
def half16 (a b : Word) : Bool :=
  decide (a.toNat % 0x1000 + b.toNat % 0x1000 > 0xFFF)

/-! ### 8-bit arithmetic and logic (R114 to R121) -/

/-- A result byte with the flags that go with it. -/
structure ByteResult where
  value : Byte
  flags : Flags
  deriving DecidableEq, Repr

/-- The sum of R114 (`c` = 0) and R115. -/
def addBytes (a b : Byte) (c : Bool) : ByteResult where
  value := a + b + bitByte c
  flags := { z := a + b + bitByte c == 0, n := false, h := half8 a b c, c := carry8 a b c }

/-- The difference of R116 and R121 (`c` = 0) and R117. -/
def subBytes (a b : Byte) (c : Bool) : ByteResult where
  value := a - b - bitByte c
  flags := { z := a - b - bitByte c == 0, n := true, h := hborrow8 a b c, c := borrow8 a b c }

/-- A logic result with `H` as given, N = 0 and C = 0 (R118 to R120). -/
def logicByte (r : Byte) (h : Bool) : ByteResult where
  value := r
  flags := { z := r == 0, n := false, h := h, c := false }

/-- The eight ALU functions (R114 to R121) on the accumulator `a` and the operand `b`, with the old flags. CP's
value is the accumulator itself: A is not written (R121). -/
def alu (op : AluOp) (f : Flags) (a b : Byte) : ByteResult :=
  match op with
  | .add => addBytes a b false
  | .adc => addBytes a b f.c
  | .sub => subBytes a b false
  | .sbc => subBytes a b f.c
  | .and => logicByte (a &&& b) true
  | .xor => logicByte (a ^^^ b) false
  | .or => logicByte (a ||| b) false
  | .cp => { subBytes a b false with value := a }

/-- INC on a byte: C unchanged (R146, R147). -/
def incByte (f : Flags) (v : Byte) : ByteResult where
  value := v + 1
  flags := { z := v + 1 == 0, n := false, h := lowNibble v == 0xF, c := f.c }

/-- DEC on a byte: C unchanged (R148, R149). -/
def decByte (f : Flags) (v : Byte) : ByteResult where
  value := v - 1
  flags := { z := v - 1 == 0, n := true, h := lowNibble v == 0, c := f.c }

/-! ### DAA (R150) -/

/-- DAA after an addition (N = 0): the adjusted byte and the new C. -/
def daaAfterAdd (f : Flags) (a : Byte) : Byte × Bool :=
  let high := f.c || decide (a.toNat > 0x99)
  let a1 := if high then a + 0x60 else a
  (if f.h || decide (lowNibble a1 > 0x9) then a1 + 0x06 else a1, high)

/-- DAA after a subtraction (N = 1): the adjusted byte; C keeps its value. -/
def daaAfterSub (f : Flags) (a : Byte) : Byte × Bool :=
  let a1 := if f.c then a - 0x60 else a
  (if f.h then a1 - 0x06 else a1, f.c)

/-- DAA: Z from the result, N unchanged, H = 0, C as computed. -/
def daa (f : Flags) (a : Byte) : ByteResult :=
  let r := if f.n then daaAfterSub f a else daaAfterAdd f a
  { value := r.1, flags := { z := r.1 == 0, n := f.n, h := false, c := r.2 } }

/-! ### 16-bit additions (R156 to R158) -/

/-- A 16-bit result with the flags that go with it. -/
structure WordResult where
  value : Word
  flags : Flags
  deriving DecidableEq, Repr

/-- `ADD HL,rr`: Z unchanged, N = 0, H from bit 11, C from bit 15 (R156). -/
def addWords (f : Flags) (a b : Word) : WordResult where
  value := a + b
  flags := { z := f.z, n := false, h := half16 a b, c := carry16 a b }

/-- SP plus a signed byte: Z = N = 0, H and C from the unsigned addition of the low bytes (R157, R158). -/
def addSigned (s : Word) (e : Byte) : WordResult where
  value := s + sext16 e
  flags := { z := false, n := false, h := half8 (lo8 s) e false, c := carry8 (lo8 s) e false }

/-! ### Rotates and shifts (R159 to R179) -/

/-- The rotated or shifted byte `r` (R164 to R179); `c` is the old carry. -/
def rotated (op : RotOp) (c : Bool) (v : Byte) : Byte :=
  match op with
  | .rlc => (v <<< 1) ||| bitByte (v.getLsbD 7)
  | .rrc => (v >>> 1) ||| (bitByte (v.getLsbD 0) <<< 7)
  | .rl => (v <<< 1) ||| bitByte c
  | .rr => (v >>> 1) ||| (bitByte c <<< 7)
  | .sla => v <<< 1
  | .sra => (v >>> 1) ||| (v &&& 0x80)
  | .swap => (v <<< 4) ||| (v >>> 4)
  | .srl => v >>> 1

/-- The bit shifted out, `co` (R164 to R179): bit 7 to the left, bit 0 to the right, 0 for SWAP. -/
def shiftedOut (op : RotOp) (v : Byte) : Bool :=
  match op with
  | .rlc | .rl | .sla => v.getLsbD 7
  | .rrc | .rr | .sra | .srl => v.getLsbD 0
  | .swap => false

/-- A CB-table rotate or shift: Z from the result, N = H = 0, C the bit shifted out (R164 to R179). -/
def rotate (op : RotOp) (f : Flags) (v : Byte) : ByteResult where
  value := rotated op f.c v
  flags := { z := rotated op f.c v == 0, n := false, h := false, c := shiftedOut op v }

/-- An accumulator rotate: as the CB form, but Z = 0 always (R159 to R162). -/
def rotateA (op : RotOp) (f : Flags) (v : Byte) : ByteResult where
  value := rotated op f.c v
  flags := { z := false, n := false, h := false, c := shiftedOut op v }

/-! ### Bit operations (R180 to R185) -/

/-- The flags of BIT: Z = NOT bit y, N = 0, H = 1, C unchanged (R180, R181). -/
def bitFlags (y : Oct) (f : Flags) (v : Byte) : Flags where
  z := !(v.getLsbD y.toNat)
  n := false
  h := true
  c := f.c

/-- The byte with bit y alone set, `1 << y`. -/
def oneBit (y : Oct) : Byte :=
  1#8 <<< y.toNat

/-- `v & (0xFF ^ (1 << y))` (R182, R183). -/
def resetBit (y : Oct) (v : Byte) : Byte :=
  v &&& (0xFF ^^^ oneBit y)

/-- `v | (1 << y)` (R184, R185). -/
def setBit (y : Oct) (v : Byte) : Byte :=
  v ||| oneBit y

end Sys2Proof.Machine
end

