-- ==== Sys2Proof/Machine/Operands.lean ====
section
/-! DEFINITION. Sys2Proof/Machine/Operands.lean: the operand forms (30_encoding.md R73 to R79; 10_state.md R10 to
R16): registers, pairs, memory pointers, conditions, and reads of memory with their joypad draws. -/

namespace Sys2Proof.Machine

/-! ### 8-bit registers (R10, R73) -/

/-- A register operand's value. -/
def State.reg (s : State) : Reg → Byte
  | .b => s.cpu.b
  | .c => s.cpu.c
  | .d => s.cpu.d
  | .e => s.cpu.e
  | .h => s.cpu.h
  | .l => s.cpu.l
  | .a => s.cpu.a

/-- `r8(y) <- v` for a register y. -/
def State.setReg (s : State) (r : Reg) (v : Byte) : State :=
  match r with
  | .b => { s with cpu := { s.cpu with b := v } }
  | .c => { s with cpu := { s.cpu with c := v } }
  | .d => { s with cpu := { s.cpu with d := v } }
  | .e => { s with cpu := { s.cpu with e := v } }
  | .h => { s with cpu := { s.cpu with h := v } }
  | .l => { s with cpu := { s.cpu with l := v } }
  | .a => { s with cpu := { s.cpu with a := v } }

/-- Writes the flags. -/
def State.setFlags (s : State) (f : Flags) : State :=
  { s with cpu := { s.cpu with flags := f } }

/-- Writes PC. -/
def State.setPc (s : State) (v : Word) : State :=
  { s with cpu := { s.cpu with pc := v } }

/-- Writes SP. -/
def State.setSp (s : State) (v : Word) : State :=
  { s with cpu := { s.cpu with sp := v } }

/-- Writes IME and `ei_pending`. -/
def State.setIme (s : State) (ime eiPending : Bool) : State :=
  { s with cpu := { s.cpu with ime := ime, eiPending := eiPending } }

/-- Writes `run`. -/
def State.setRun (s : State) (r : RunState) : State :=
  { s with cpu := { s.cpu with run := r } }

/-! ### Pairs (R11): the first-named register is the high byte -/

/-- BC. -/
def State.bc (s : State) : Word := cat s.cpu.b s.cpu.c

/-- DE. -/
def State.de (s : State) : Word := cat s.cpu.d s.cpu.e

/-- HL, the pointer of every (HL) operand. -/
def State.hl (s : State) : Word := cat s.cpu.h s.cpu.l

/-- AF. -/
def State.af (s : State) : Word := cat s.cpu.a s.cpu.flags.toByte

/-- Writes BC. -/
def State.setBc (s : State) (v : Word) : State :=
  { s with cpu := { s.cpu with b := hi8 v, c := lo8 v } }

/-- Writes DE. -/
def State.setDe (s : State) (v : Word) : State :=
  { s with cpu := { s.cpu with d := hi8 v, e := lo8 v } }

/-- Writes HL. -/
def State.setHl (s : State) (v : Word) : State :=
  { s with cpu := { s.cpu with h := hi8 v, l := lo8 v } }

/-- Writes AF: F keeps bits 7:4 of the low byte (R14, 40_load.md R112). -/
def State.setAf (s : State) (v : Word) : State :=
  { s with cpu := { s.cpu with a := hi8 v, flags := Flags.ofByte (lo8 v) } }

/-- An `r16` operand's value (R74). -/
def State.r16 (s : State) : R16 → Word
  | .bc => s.bc
  | .de => s.de
  | .hl => s.hl
  | .sp => s.cpu.sp

/-- `r16(p) <- v` (R74). -/
def State.setR16 (s : State) (p : R16) (v : Word) : State :=
  match p with
  | .bc => s.setBc v
  | .de => s.setDe v
  | .hl => s.setHl v
  | .sp => s.setSp v

/-- An `r16stk` operand's value (R75). -/
def State.r16stk (s : State) : R16stk → Word
  | .bc => s.bc
  | .de => s.de
  | .hl => s.hl
  | .af => s.af

/-- `r16stk(p) <- v` (R75). -/
def State.setR16stk (s : State) (p : R16stk) (v : Word) : State :=
  match p with
  | .bc => s.setBc v
  | .de => s.setDe v
  | .hl => s.setHl v
  | .af => s.setAf v

/-! ### Memory pointers (R76) -/

/-- The address of an `r16mem` operand. -/
def State.r16mem (s : State) : R16mem → Word
  | .bc => s.bc
  | .de => s.de
  | .hlInc => s.hl
  | .hlDec => s.hl

/-- The update of HL that an `r16mem` operand makes after its access. -/
def State.stepR16mem (s : State) (p : R16mem) : State :=
  match p with
  | .bc => s
  | .de => s
  | .hlInc => s.setHl (s.hl + 1)
  | .hlDec => s.setHl (s.hl - 1)

/-! ### Conditions (R16, R77) -/

/-- `cond(cc)`. -/
def State.cond (s : State) : Cond → Bool
  | .nz => !s.cpu.flags.z
  | .z => s.cpu.flags.z
  | .nc => !s.cpu.flags.c
  | .c => s.cpu.flags.c

/-! ### Reads

Each read of one system step has a number, so that reads of P1 in one step are different draws (R30): 0, 1 and 2
for the instruction's bytes, 3 and 4 for data. -/

/-- `MemRead(a, 1)` as the k-th read of the step. A read changes no state (20_memory.md R63). -/
def State.readByte (s : State) (k : Nat) (a : Word) : Byte :=
  busRead (Config.joypadIn s.draws k) s a

/-- The data read of an instruction that reads one byte. -/
def State.readData (s : State) (a : Word) : Byte :=
  s.readByte 3 a

end Sys2Proof.Machine
end

