-- ==== Sys2Proof/Machine/Ops.lean ====
section
/-! DEFINITION. Sys2Proof/Machine/Ops.lean: the named operations over memory and registers that the instructions
share (20_memory.md R59 to R61), and taking an interrupt and returning from one (60_exceptions.md R210 to
R216). The machine's one synchronous exception, InvalidOpcode, has no handler (R217): it is `invalidAt`. -/

namespace Sys2Proof.Machine

/-- Ends an instruction, a dispatch or a wait: the CPU step returns `n` cycles (R209). -/
def State.took (s : State) (n : Nat) : State :=
  { s with cycles := n }

/-- The outcome of an instruction that completes in `n` cycles. -/
def done (n : Nat) (s : State) : Result :=
  .next (s.took n)

/-! ### 16-bit accesses and the stack -/

/-- `Write16(a, v)`: the low byte at a, then the high byte at a + 1 (R60). -/
def write16 (s : State) (a v : Word) : State :=
  busWrite (busWrite s a (lo8 v)) (a + 1) (hi8 v)

/-- `Push16(v)` (R61): SP falls by one and takes the high byte, falls by one and takes the low byte. -/
def push16 (s : State) (v : Word) : State :=
  let s1 := busWrite (s.setSp (s.cpu.sp - 1)) (s.cpu.sp - 1) (hi8 v)
  busWrite (s1.setSp (s1.cpu.sp - 1)) (s1.cpu.sp - 1) (lo8 v)

/-- `Read16(a)` (R59), as the data reads 3 and 4 of the step. -/
def State.read16 (s : State) (a : Word) : Word :=
  cat (s.readByte 4 (a + 1)) (s.readByte 3 a)

/-- The value that `Pop16()` returns (R61). -/
def popValue (s : State) : Word :=
  s.read16 s.cpu.sp

/-- The effect of `Pop16()` on SP (R61). -/
def popSp (s : State) : State :=
  s.setSp (s.cpu.sp + 2)

/-! ### The interrupt controller -/

/-- The five interrupt sources (R210). -/
inductive IrqSource
  | vblank
  | lcdStatus
  | timer
  | serial
  | joypad
  deriving DecidableEq, Repr

/-- The bit of a source in IE and IF (R210). -/
def IrqSource.bit : IrqSource → Nat
  | .vblank => 0
  | .lcdStatus => 1
  | .timer => 2
  | .serial => 3
  | .joypad => 4

/-- The mask of a source in IE and IF. -/
def IrqSource.mask (k : IrqSource) : BitVec 5 :=
  1#5 <<< k.bit

/-- The vector of a source, `0x0040 + 8·k` (R215). -/
def IrqSource.vector (k : IrqSource) : Word :=
  BitVec.ofNat 16 (0x40 + 8 * k.bit)

/-- `request(source k)`: `IF[k] <- 1` (R211). -/
def requestIrq (k : IrqSource) (s : State) : State :=
  { s with irq := { s.irq with request := s.irq.request ||| k.mask } }

/-- `acknowledge(source k)`: `IF[k] <- 0` (R212). -/
def acknowledgeIrq (k : IrqSource) (s : State) : State :=
  { s with irq := { s.irq with request := s.irq.request &&& ~~~k.mask } }

/-- The pending set, `IE[4:0] & IF[4:0]` (10_state.md R23). -/
def State.pending (s : State) : BitVec 5 :=
  s.irq.enable &&& s.irq.request

/-- `is_pending_and_enabled()`: the lowest set bit of the pending set, if any (R212). -/
def firstPending (p : BitVec 5) : Option IrqSource :=
  if p.getLsbD 0 then some .vblank
  else if p.getLsbD 1 then some .lcdStatus
  else if p.getLsbD 2 then some .timer
  else if p.getLsbD 3 then some .serial
  else if p.getLsbD 4 then some .joypad
  else none

/-! ### Taking an interrupt, and returning from one -/

/-- `Dispatch` of source k (R214): IME and `ei_pending` fall, PC is pushed, PC goes to the vector, and IF[k] is
cleared last, whatever the push left in it. 20 cycles. -/
def dispatchIrq (k : IrqSource) (s : State) : State :=
  let s1 := push16 (s.setIme false false) s.cpu.pc
  (acknowledgeIrq k (s1.setPc k.vector)).took 20

/-- The return of 44_control.md R195: `PC <- Pop16(); IME <- 1; ei_pending <- 0`. -/
def returnFromIrq (s : State) : State :=
  ((popSp s).setPc (popValue s)).setIme true false

/-! ### The synchronous fault -/

/-- `raise InvalidOpcode(byte, addr)` (00_scope.md R8; 45_system.md R204; 60_exceptions.md R217): the step answers the
fault and no next state. -/
def invalidAt (byte : Byte) (addr : Word) : Result :=
  .fault (.invalidOpcode byte addr)

/-- The machine after that fault, as R204 leaves it: `fault` is recorded, and nothing else changes. -/
def State.withFault (s : State) (byte : Byte) (addr : Word) : State :=
  { s with cpu := { s.cpu with fault := some { byte := byte, addr := addr } } }

end Sys2Proof.Machine
end

