-- ==== Sys2Proof/Machine/Devices.lean ====
section
/-! DEFINITION. Sys2Proof/Machine/Devices.lean: what advances after every CPU step: the timer (60_exceptions.md R222
to R224) and the PPU's position, modes and requests (R226 to R229). -/

namespace Sys2Proof.Machine

/-! ### Timer -/

/-- The increment period that TAC[1:0] selects (R223; 10_state.md R24). -/
def Timer.period (t : Timer) : Nat :=
  match (t.tac.extractLsb' 0 2).toNat with
  | 0 => 1024
  | 1 => 16
  | 2 => 64
  | _ => 256

/-- TAC[2]: the counter is enabled (R223). -/
def Timer.enabled (t : Timer) : Bool :=
  t.tac.getLsbD 2

/-- `TimerAdvance(n)`, first half: the divider. The quotient counts the turns of R222's while loop. -/
def Timer.advanceDiv (t : Timer) (n : Nat) : Timer :=
  { t with div := t.div + BitVec.ofNat 8 ((t.divAcc + n) / 256), divAcc := (t.divAcc + n) % 256 }

/-- `TimaIncrement()` (R224), done `k` times: the timer, and whether it overflowed at least once. -/
def Timer.incTima : Timer → Nat → Timer × Bool
  | t, 0 => (t, false)
  | t, k + 1 =>
    if t.tima = 0xFF then ((Timer.incTima { t with tima := t.tma } k).1, true)
    else Timer.incTima { t with tima := t.tima + 1 } k

/-- `TimerAdvance(n)`, second half: the counter. The quotient counts the turns of R223's while loop. -/
def Timer.advanceTima (t : Timer) (n : Nat) : Timer × Bool :=
  if t.enabled then
    Timer.incTima { t with timaAcc := (t.timaAcc + n) % t.period } ((t.timaAcc + n) / t.period)
  else (t, false)

/-- `TimerAdvance(n)`: the divider, then the counter, whose overflow requests the timer interrupt. -/
def timerAdvance (n : Nat) (s : State) : State :=
  let r := (s.timer.advanceDiv n).advanceTima n
  let s1 := { s with timer := r.1 }
  if r.2 then requestIrq .timer s1 else s1

/-! ### PPU -/

/-- `MODE3_LEN(frame, line)`: a draw in 172..289 (R226; 00_scope.md R5). -/
def mode3Draw (frame line : Nat) : Nat :=
  (Config.mode3Extra frame line).val + 172

/-- `LineStart()` (R226, R229) without its request: a visible line draws its pixel-transfer length, and STAT[2]
compares LY with LYC. -/
def Ppu.lineStart (p : Ppu) : Ppu :=
  { p with
    mode3Len := if p.inVblank then p.mode3Len else mode3Draw p.frames p.ly.toNat
    lycMatch := p.ly == p.lyc }

/-- The next line after a full one: LY counts 0..153, and the wrap to 0 completes a frame (R226, R227). -/
def Ppu.nextLine (p : Ppu) : Ppu :=
  if p.ly + 1 = 154 then Ppu.lineStart { p with dot := 0, ly := 0, frames := p.frames + 1 }
  else Ppu.lineStart { p with dot := 0, ly := p.ly + 1 }

/-- The position after one cycle of `PpuTick()` (R226). -/
def Ppu.move (p : Ppu) : Ppu :=
  if p.dot + 1 = 456 then p.nextLine else { p with dot := p.dot + 1 }

/-- Whether the mode was entered by the tick from `old` to `new` (R226: `ppu_mode ≠ old`). -/
def enters (m : PpuMode) (old new : Ppu) : Bool :=
  new.mode == m && old.mode != m

/-- Whether the tick entered mode 1. It reads LY alone, since mode 1 is LY ≥ 144 (R226). -/
def entersVblank (old new : Ppu) : Bool :=
  new.inVblank && !old.inVblank

/-- Whether the tick from `old` to `new` requests LCD-status (R229): an entry to mode 0, 1 or 2 that STAT[3], [4] or
[5] enables, or a line start with LY = LYC that STAT[6] enables. -/
def statRequest (old new : Ppu) : Bool :=
  (new.statEnable.getLsbD 0 && enters .hblank old new)
    || (new.statEnable.getLsbD 1 && entersVblank old new)
    || (new.statEnable.getLsbD 2 && enters .oamSearch old new)
    || (new.statEnable.getLsbD 3 && (decide (old.dot + 1 = 456) && new.lycMatch))

/-- The PPU with the request register that it writes. -/
structure PpuIrq where
  ppu : Ppu
  request : BitVec 5
  deriving DecidableEq, Repr

/-- `PpuTick()` (R226, R228, R229). -/
def ppuTick (x : PpuIrq) : PpuIrq :=
  let new := x.ppu.move
  { ppu := new
    request := x.request
      ||| (if entersVblank x.ppu new then IrqSource.vblank.mask else 0)
      ||| (if statRequest x.ppu new then IrqSource.lcdStatus.mask else 0) }

/-- `PpuTick()` done n times (R226). -/
def ppuTicks : Nat → PpuIrq → PpuIrq
  | 0, x => x
  | n + 1, x => ppuTicks n (ppuTick x)

/-- `PpuAdvance(n)` (R226). -/
def ppuAdvance (n : Nat) (s : State) : State :=
  let r := ppuTicks n { ppu := s.ppu, request := s.irq.request }
  { s with ppu := r.ppu, irq := { s.irq with request := r.request } }

end Sys2Proof.Machine
end

