-- ==== Sys2Proof/Machine/Alu16.lean ====
section
/-! DEFINITION. Sys2Proof/Machine/Alu16.lean: 16-bit arithmetic (42_alu16.md R154 to R158). -/

namespace Sys2Proof.Machine

/-! ### Shared forms -/

/-- `ADD HL,rr` (R156). -/
def addHl (p : R16) (s : State) : Result :=
  let r := addWords s.cpu.flags s.hl (s.r16 p)
  done 8 ((s.setHl r.value).setFlags r.flags)

/-! ### The instructions -/

/-- `INC BC` (03), R154. -/
def execInc_BC (s : State) : Result :=
  done 8 (s.setR16 .bc (s.r16 .bc + 1))

/-- `INC DE` (13), R154. -/
def execInc_DE (s : State) : Result :=
  done 8 (s.setR16 .de (s.r16 .de + 1))

/-- `INC HL` (23), R154. -/
def execInc_HL (s : State) : Result :=
  done 8 (s.setR16 .hl (s.r16 .hl + 1))

/-- `INC SP` (33), R154. -/
def execInc_SP (s : State) : Result :=
  done 8 (s.setR16 .sp (s.r16 .sp + 1))

/-- `DEC BC` (0B), R155. -/
def execDec_BC (s : State) : Result :=
  done 8 (s.setR16 .bc (s.r16 .bc - 1))

/-- `DEC DE` (1B), R155. -/
def execDec_DE (s : State) : Result :=
  done 8 (s.setR16 .de (s.r16 .de - 1))

/-- `DEC HL` (2B), R155. -/
def execDec_HL (s : State) : Result :=
  done 8 (s.setR16 .hl (s.r16 .hl - 1))

/-- `DEC SP` (3B), R155. -/
def execDec_SP (s : State) : Result :=
  done 8 (s.setR16 .sp (s.r16 .sp - 1))

/-- `ADD HL,BC` (09), R156. -/
def execAdd_HL_BC (s : State) : Result :=
  addHl .bc s

/-- `ADD HL,DE` (19), R156. -/
def execAdd_HL_DE (s : State) : Result :=
  addHl .de s

/-- `ADD HL,HL` (29), R156. -/
def execAdd_HL_HL (s : State) : Result :=
  addHl .hl s

/-- `ADD HL,SP` (39), R156. -/
def execAdd_HL_SP (s : State) : Result :=
  addHl .sp s

/-- `ADD SP,e8` (E8), R157. -/
def execAdd_SP_e8 (e : Byte) (s : State) : Result :=
  done 16 ((s.setSp (addSigned s.cpu.sp e).value).setFlags (addSigned s.cpu.sp e).flags)

/-- `LD HL,SP+e8` (F8), R158. -/
def execLd_HL_SPe8 (e : Byte) (s : State) : Result :=
  done 12 ((s.setHl (addSigned s.cpu.sp e).value).setFlags (addSigned s.cpu.sp e).flags)

end Sys2Proof.Machine
end

