-- ==== Sys2Proof/Machine/Control.lean ====
section
/-! DEFINITION. Sys2Proof/Machine/Control.lean: jumps, calls, returns and restarts (44_control.md R186 to R196). PC is `pc_next` when a meaning starts (10_state.md R13). -/

namespace Sys2Proof.Machine

/-! ### Shared forms -/

/-- The target of a relative jump: `mod16(pc_next + sext_16(e))` (R189). -/
def jumpBy (s : State) (e : Byte) : State :=
  s.setPc (s.cpu.pc + sext16 e)

/-- `Push16(pc_next); PC <- t` (R191, R196). -/
def callTo (s : State) (t : Word) : State :=
  (push16 s s.cpu.pc).setPc t

/-- `PC <- Pop16()` (R193). -/
def returned (s : State) : State :=
  (popSp s).setPc (popValue s)

/-- The target of RST, `8 * y` (30_encoding.md R78). -/
def rstTarget (y : Oct) : Word :=
  BitVec.ofNat 16 (8 * y.toNat)

/-- `JP cc,a16` (R187): 16 cycles taken, 12 not taken. -/
def jpCond (k : Cond) (a : Word) (s : State) : Result :=
  if s.cond k then done 16 (s.setPc a) else done 12 s

/-- `JR cc,e8` (R190): 12 cycles taken, 8 not taken. -/
def jrCond (k : Cond) (e : Byte) (s : State) : Result :=
  if s.cond k then done 12 (jumpBy s e) else done 8 s

/-- `CALL cc,a16` (R192): 24 cycles taken, 12 not taken. -/
def callCond (k : Cond) (a : Word) (s : State) : Result :=
  if s.cond k then done 24 (callTo s a) else done 12 s

/-- `RET cc` (R194): 20 cycles taken, 8 not taken. -/
def retCond (k : Cond) (s : State) : Result :=
  if s.cond k then done 20 (returned s) else done 8 s

/-! ### The instructions -/

/-- `JP a16` (C3), R186. -/
def execJp_a16 (a : Word) (s : State) : Result :=
  done 16 (s.setPc a)

/-- `JP NZ,a16` (C2), R187. -/
def execJp_NZ_a16 (a : Word) (s : State) : Result :=
  jpCond .nz a s

/-- `JP Z,a16` (CA), R187. -/
def execJp_Z_a16 (a : Word) (s : State) : Result :=
  jpCond .z a s

/-- `JP NC,a16` (D2), R187. -/
def execJp_NC_a16 (a : Word) (s : State) : Result :=
  jpCond .nc a s

/-- `JP C,a16` (DA), R187. -/
def execJp_C_a16 (a : Word) (s : State) : Result :=
  jpCond .c a s

/-- `JP HL` (E9), R188. -/
def execJp_HL (s : State) : Result :=
  done 4 (s.setPc s.hl)

/-- `JR e8` (18), R189. -/
def execJr_e8 (e : Byte) (s : State) : Result :=
  done 12 (jumpBy s e)

/-- `JR NZ,e8` (20), R190. -/
def execJr_NZ_e8 (e : Byte) (s : State) : Result :=
  jrCond .nz e s

/-- `JR Z,e8` (28), R190. -/
def execJr_Z_e8 (e : Byte) (s : State) : Result :=
  jrCond .z e s

/-- `JR NC,e8` (30), R190. -/
def execJr_NC_e8 (e : Byte) (s : State) : Result :=
  jrCond .nc e s

/-- `JR C,e8` (38), R190. -/
def execJr_C_e8 (e : Byte) (s : State) : Result :=
  jrCond .c e s

/-- `CALL a16` (CD), R191. -/
def execCall_a16 (a : Word) (s : State) : Result :=
  done 24 (callTo s a)

/-- `CALL NZ,a16` (C4), R192. -/
def execCall_NZ_a16 (a : Word) (s : State) : Result :=
  callCond .nz a s

/-- `CALL Z,a16` (CC), R192. -/
def execCall_Z_a16 (a : Word) (s : State) : Result :=
  callCond .z a s

/-- `CALL NC,a16` (D4), R192. -/
def execCall_NC_a16 (a : Word) (s : State) : Result :=
  callCond .nc a s

/-- `CALL C,a16` (DC), R192. -/
def execCall_C_a16 (a : Word) (s : State) : Result :=
  callCond .c a s

/-- `RET` (C9), R193. -/
def execRet (s : State) : Result :=
  done 16 (returned s)

/-- `RET NZ` (C0), R194. -/
def execRet_NZ (s : State) : Result :=
  retCond .nz s

/-- `RET Z` (C8), R194. -/
def execRet_Z (s : State) : Result :=
  retCond .z s

/-- `RET NC` (D0), R194. -/
def execRet_NC (s : State) : Result :=
  retCond .nc s

/-- `RET C` (D8), R194. -/
def execRet_C (s : State) : Result :=
  retCond .c s

/-- `RETI` (D9), R195. -/
def execReti (s : State) : Result :=
  done 16 (returnFromIrq s)

/-- `RST 00H` (C7), R196. -/
def execRst_00 (s : State) : Result :=
  done 16 (callTo s (rstTarget .i0))

/-- `RST 08H` (CF), R196. -/
def execRst_08 (s : State) : Result :=
  done 16 (callTo s (rstTarget .i1))

/-- `RST 10H` (D7), R196. -/
def execRst_10 (s : State) : Result :=
  done 16 (callTo s (rstTarget .i2))

/-- `RST 18H` (DF), R196. -/
def execRst_18 (s : State) : Result :=
  done 16 (callTo s (rstTarget .i3))

/-- `RST 20H` (E7), R196. -/
def execRst_20 (s : State) : Result :=
  done 16 (callTo s (rstTarget .i4))

/-- `RST 28H` (EF), R196. -/
def execRst_28 (s : State) : Result :=
  done 16 (callTo s (rstTarget .i5))

/-- `RST 30H` (F7), R196. -/
def execRst_30 (s : State) : Result :=
  done 16 (callTo s (rstTarget .i6))

/-- `RST 38H` (FF), R196. -/
def execRst_38 (s : State) : Result :=
  done 16 (callTo s (rstTarget .i7))

end Sys2Proof.Machine
end

