-- ==== Sys2Proof/Machine/Loads.lean ====
section
/-! DEFINITION. Sys2Proof/Machine/Loads.lean: the loads, stores, PUSH and POP (40_load.md R87 to R112). -/

namespace Sys2Proof.Machine

/-! ### Shared forms -/

/-- `LD r,r'` (R87). -/
def ldRegReg (dst src : Reg) (s : State) : Result :=
  done 4 (s.setReg dst (s.reg src))

/-- `LD r,(HL)` (R88). -/
def ldRegMem (dst : Reg) (s : State) : Result :=
  done 8 (s.setReg dst (s.readData s.hl))

/-- `LD (HL),r` (R89). -/
def ldMemReg (src : Reg) (s : State) : Result :=
  done 8 (busWrite s s.hl (s.reg src))

/-- `LD r,d8` (R90). -/
def ldRegImm (dst : Reg) (n : Byte) (s : State) : Result :=
  done 8 (s.setReg dst n)

/-- `LD A,(r16mem)` (R92, R93, R96, R97): HL moves after the read. -/
def ldAccMem (p : R16mem) (s : State) : Result :=
  done 8 ((s.setReg .a (s.readData (s.r16mem p))).stepR16mem p)

/-- `LD (r16mem),A` (R94, R95, R98, R99): HL moves after the write. -/
def ldMemAcc (p : R16mem) (s : State) : Result :=
  done 8 ((busWrite s (s.r16mem p) s.cpu.a).stepR16mem p)

/-! ### The instructions -/

/-- `LD B,B` (40), R87. -/
def execLd_B_B (s : State) : Result :=
  ldRegReg .b .b s

/-- `LD B,C` (41), R87. -/
def execLd_B_C (s : State) : Result :=
  ldRegReg .b .c s

/-- `LD B,D` (42), R87. -/
def execLd_B_D (s : State) : Result :=
  ldRegReg .b .d s

/-- `LD B,E` (43), R87. -/
def execLd_B_E (s : State) : Result :=
  ldRegReg .b .e s

/-- `LD B,H` (44), R87. -/
def execLd_B_H (s : State) : Result :=
  ldRegReg .b .h s

/-- `LD B,L` (45), R87. -/
def execLd_B_L (s : State) : Result :=
  ldRegReg .b .l s

/-- `LD B,A` (47), R87. -/
def execLd_B_A (s : State) : Result :=
  ldRegReg .b .a s

/-- `LD C,B` (48), R87. -/
def execLd_C_B (s : State) : Result :=
  ldRegReg .c .b s

/-- `LD C,C` (49), R87. -/
def execLd_C_C (s : State) : Result :=
  ldRegReg .c .c s

/-- `LD C,D` (4A), R87. -/
def execLd_C_D (s : State) : Result :=
  ldRegReg .c .d s

/-- `LD C,E` (4B), R87. -/
def execLd_C_E (s : State) : Result :=
  ldRegReg .c .e s

/-- `LD C,H` (4C), R87. -/
def execLd_C_H (s : State) : Result :=
  ldRegReg .c .h s

/-- `LD C,L` (4D), R87. -/
def execLd_C_L (s : State) : Result :=
  ldRegReg .c .l s

/-- `LD C,A` (4F), R87. -/
def execLd_C_A (s : State) : Result :=
  ldRegReg .c .a s

/-- `LD D,B` (50), R87. -/
def execLd_D_B (s : State) : Result :=
  ldRegReg .d .b s

/-- `LD D,C` (51), R87. -/
def execLd_D_C (s : State) : Result :=
  ldRegReg .d .c s

/-- `LD D,D` (52), R87. -/
def execLd_D_D (s : State) : Result :=
  ldRegReg .d .d s

/-- `LD D,E` (53), R87. -/
def execLd_D_E (s : State) : Result :=
  ldRegReg .d .e s

/-- `LD D,H` (54), R87. -/
def execLd_D_H (s : State) : Result :=
  ldRegReg .d .h s

/-- `LD D,L` (55), R87. -/
def execLd_D_L (s : State) : Result :=
  ldRegReg .d .l s

/-- `LD D,A` (57), R87. -/
def execLd_D_A (s : State) : Result :=
  ldRegReg .d .a s

/-- `LD E,B` (58), R87. -/
def execLd_E_B (s : State) : Result :=
  ldRegReg .e .b s

/-- `LD E,C` (59), R87. -/
def execLd_E_C (s : State) : Result :=
  ldRegReg .e .c s

/-- `LD E,D` (5A), R87. -/
def execLd_E_D (s : State) : Result :=
  ldRegReg .e .d s

/-- `LD E,E` (5B), R87. -/
def execLd_E_E (s : State) : Result :=
  ldRegReg .e .e s

/-- `LD E,H` (5C), R87. -/
def execLd_E_H (s : State) : Result :=
  ldRegReg .e .h s

/-- `LD E,L` (5D), R87. -/
def execLd_E_L (s : State) : Result :=
  ldRegReg .e .l s

/-- `LD E,A` (5F), R87. -/
def execLd_E_A (s : State) : Result :=
  ldRegReg .e .a s

/-- `LD H,B` (60), R87. -/
def execLd_H_B (s : State) : Result :=
  ldRegReg .h .b s

/-- `LD H,C` (61), R87. -/
def execLd_H_C (s : State) : Result :=
  ldRegReg .h .c s

/-- `LD H,D` (62), R87. -/
def execLd_H_D (s : State) : Result :=
  ldRegReg .h .d s

/-- `LD H,E` (63), R87. -/
def execLd_H_E (s : State) : Result :=
  ldRegReg .h .e s

/-- `LD H,H` (64), R87. -/
def execLd_H_H (s : State) : Result :=
  ldRegReg .h .h s

/-- `LD H,L` (65), R87. -/
def execLd_H_L (s : State) : Result :=
  ldRegReg .h .l s

/-- `LD H,A` (67), R87. -/
def execLd_H_A (s : State) : Result :=
  ldRegReg .h .a s

/-- `LD L,B` (68), R87. -/
def execLd_L_B (s : State) : Result :=
  ldRegReg .l .b s

/-- `LD L,C` (69), R87. -/
def execLd_L_C (s : State) : Result :=
  ldRegReg .l .c s

/-- `LD L,D` (6A), R87. -/
def execLd_L_D (s : State) : Result :=
  ldRegReg .l .d s

/-- `LD L,E` (6B), R87. -/
def execLd_L_E (s : State) : Result :=
  ldRegReg .l .e s

/-- `LD L,H` (6C), R87. -/
def execLd_L_H (s : State) : Result :=
  ldRegReg .l .h s

/-- `LD L,L` (6D), R87. -/
def execLd_L_L (s : State) : Result :=
  ldRegReg .l .l s

/-- `LD L,A` (6F), R87. -/
def execLd_L_A (s : State) : Result :=
  ldRegReg .l .a s

/-- `LD A,B` (78), R87. -/
def execLd_A_B (s : State) : Result :=
  ldRegReg .a .b s

/-- `LD A,C` (79), R87. -/
def execLd_A_C (s : State) : Result :=
  ldRegReg .a .c s

/-- `LD A,D` (7A), R87. -/
def execLd_A_D (s : State) : Result :=
  ldRegReg .a .d s

/-- `LD A,E` (7B), R87. -/
def execLd_A_E (s : State) : Result :=
  ldRegReg .a .e s

/-- `LD A,H` (7C), R87. -/
def execLd_A_H (s : State) : Result :=
  ldRegReg .a .h s

/-- `LD A,L` (7D), R87. -/
def execLd_A_L (s : State) : Result :=
  ldRegReg .a .l s

/-- `LD A,A` (7F), R87. -/
def execLd_A_A (s : State) : Result :=
  ldRegReg .a .a s

/-- `LD B,(HL)` (46), R88. -/
def execLd_B_atHL (s : State) : Result :=
  ldRegMem .b s

/-- `LD C,(HL)` (4E), R88. -/
def execLd_C_atHL (s : State) : Result :=
  ldRegMem .c s

/-- `LD D,(HL)` (56), R88. -/
def execLd_D_atHL (s : State) : Result :=
  ldRegMem .d s

/-- `LD E,(HL)` (5E), R88. -/
def execLd_E_atHL (s : State) : Result :=
  ldRegMem .e s

/-- `LD H,(HL)` (66), R88. -/
def execLd_H_atHL (s : State) : Result :=
  ldRegMem .h s

/-- `LD L,(HL)` (6E), R88. -/
def execLd_L_atHL (s : State) : Result :=
  ldRegMem .l s

/-- `LD A,(HL)` (7E), R88. -/
def execLd_A_atHL (s : State) : Result :=
  ldRegMem .a s

/-- `LD (HL),B` (70), R89. -/
def execLd_atHL_B (s : State) : Result :=
  ldMemReg .b s

/-- `LD (HL),C` (71), R89. -/
def execLd_atHL_C (s : State) : Result :=
  ldMemReg .c s

/-- `LD (HL),D` (72), R89. -/
def execLd_atHL_D (s : State) : Result :=
  ldMemReg .d s

/-- `LD (HL),E` (73), R89. -/
def execLd_atHL_E (s : State) : Result :=
  ldMemReg .e s

/-- `LD (HL),H` (74), R89. -/
def execLd_atHL_H (s : State) : Result :=
  ldMemReg .h s

/-- `LD (HL),L` (75), R89. -/
def execLd_atHL_L (s : State) : Result :=
  ldMemReg .l s

/-- `LD (HL),A` (77), R89. -/
def execLd_atHL_A (s : State) : Result :=
  ldMemReg .a s

/-- `LD B,d8` (06), R90. -/
def execLd_B_d8 (n : Byte) (s : State) : Result :=
  ldRegImm .b n s

/-- `LD C,d8` (0E), R90. -/
def execLd_C_d8 (n : Byte) (s : State) : Result :=
  ldRegImm .c n s

/-- `LD D,d8` (16), R90. -/
def execLd_D_d8 (n : Byte) (s : State) : Result :=
  ldRegImm .d n s

/-- `LD E,d8` (1E), R90. -/
def execLd_E_d8 (n : Byte) (s : State) : Result :=
  ldRegImm .e n s

/-- `LD H,d8` (26), R90. -/
def execLd_H_d8 (n : Byte) (s : State) : Result :=
  ldRegImm .h n s

/-- `LD L,d8` (2E), R90. -/
def execLd_L_d8 (n : Byte) (s : State) : Result :=
  ldRegImm .l n s

/-- `LD A,d8` (3E), R90. -/
def execLd_A_d8 (n : Byte) (s : State) : Result :=
  ldRegImm .a n s

/-- `LD (HL),d8` (36), R91. -/
def execLd_atHL_d8 (n : Byte) (s : State) : Result :=
  done 12 (busWrite s s.hl n)

/-- `LD A,(BC)` (0A), R92. -/
def execLd_A_atBC (s : State) : Result :=
  ldAccMem .bc s

/-- `LD A,(DE)` (1A), R93. -/
def execLd_A_atDE (s : State) : Result :=
  ldAccMem .de s

/-- `LD (BC),A` (02), R94. -/
def execLd_atBC_A (s : State) : Result :=
  ldMemAcc .bc s

/-- `LD (DE),A` (12), R95. -/
def execLd_atDE_A (s : State) : Result :=
  ldMemAcc .de s

/-- `LD A,(HL+)` (2A), R96. -/
def execLd_A_atHLinc (s : State) : Result :=
  ldAccMem .hlInc s

/-- `LD A,(HL-)` (3A), R97. -/
def execLd_A_atHLdec (s : State) : Result :=
  ldAccMem .hlDec s

/-- `LD (HL+),A` (22), R98. -/
def execLd_atHLinc_A (s : State) : Result :=
  ldMemAcc .hlInc s

/-- `LD (HL-),A` (32), R99. -/
def execLd_atHLdec_A (s : State) : Result :=
  ldMemAcc .hlDec s

/-- `LD A,(a16)` (FA), R100. -/
def execLd_A_ata16 (a : Word) (s : State) : Result :=
  done 16 (s.setReg .a (s.readData a))

/-- `LD (a16),A` (EA), R101. -/
def execLd_ata16_A (a : Word) (s : State) : Result :=
  done 16 (busWrite s a s.cpu.a)

/-- `LDH A,(a8)` (F0), R102. -/
def execLdh_A_ata8 (n : Byte) (s : State) : Result :=
  done 12 (s.setReg .a (s.readData (highPage n)))

/-- `LDH (a8),A` (E0), R103. -/
def execLdh_ata8_A (n : Byte) (s : State) : Result :=
  done 12 (busWrite s (highPage n) s.cpu.a)

/-- `LD A,(C)` (F2), R104. -/
def execLd_A_atC (s : State) : Result :=
  done 8 (s.setReg .a (s.readData (highPage s.cpu.c)))

/-- `LD (C),A` (E2), R105. -/
def execLd_atC_A (s : State) : Result :=
  done 8 (busWrite s (highPage s.cpu.c) s.cpu.a)

/-- `LD BC,d16` (01), R106. -/
def execLd_BC_d16 (v : Word) (s : State) : Result :=
  done 12 (s.setR16 .bc v)

/-- `LD DE,d16` (11), R106. -/
def execLd_DE_d16 (v : Word) (s : State) : Result :=
  done 12 (s.setR16 .de v)

/-- `LD HL,d16` (21), R106. -/
def execLd_HL_d16 (v : Word) (s : State) : Result :=
  done 12 (s.setR16 .hl v)

/-- `LD SP,d16` (31), R106. -/
def execLd_SP_d16 (v : Word) (s : State) : Result :=
  done 12 (s.setR16 .sp v)

/-- `LD (a16),SP` (08), R107. -/
def execLd_ata16_SP (a : Word) (s : State) : Result :=
  done 20 (write16 s a s.cpu.sp)

/-- `LD SP,HL` (F9), R108. -/
def execLd_SP_HL (s : State) : Result :=
  done 8 (s.setSp s.hl)

/-- `PUSH BC` (C5), R109. -/
def execPush_BC (s : State) : Result :=
  done 16 (push16 s (s.r16stk .bc))

/-- `PUSH DE` (D5), R109. -/
def execPush_DE (s : State) : Result :=
  done 16 (push16 s (s.r16stk .de))

/-- `PUSH HL` (E5), R109. -/
def execPush_HL (s : State) : Result :=
  done 16 (push16 s (s.r16stk .hl))

/-- `PUSH AF` (F5), R110. -/
def execPush_AF (s : State) : Result :=
  done 16 (push16 s (s.r16stk .af))

/-- `POP BC` (C1), R111. -/
def execPop_BC (s : State) : Result :=
  done 12 ((popSp s).setR16stk .bc (popValue s))

/-- `POP DE` (D1), R111. -/
def execPop_DE (s : State) : Result :=
  done 12 ((popSp s).setR16stk .de (popValue s))

/-- `POP HL` (E1), R111. -/
def execPop_HL (s : State) : Result :=
  done 12 ((popSp s).setR16stk .hl (popValue s))

/-- `POP AF` (F1), R112. -/
def execPop_AF (s : State) : Result :=
  done 12 ((popSp s).setR16stk .af (popValue s))

end Sys2Proof.Machine
end

