-- ==== Sys2Proof/WellFormed.lean ====
section
/-! DEFINITION. Sys2Proof/WellFormed.lean: which instruction terms stand for bytes of the opcode tables. A row's operand
fields admit every value, so the one check is that an `invalid` term carries one of the 11 invalid bytes. -/

namespace Sys2Proof

/-- `INVALID_SET`: the 11 invalid main-table bytes (30_encoding.md R83). -/
def invalidBytes : List Byte :=
  [0xD3, 0xDB, 0xDD, 0xE3, 0xE4, 0xEB, 0xEC, 0xED, 0xF4, 0xFC, 0xFD]

/-- Whether a term is an instruction of the tables. -/
def Instr.wellFormed (i : Instr) : Bool :=
  match i with
  | .invalid op => invalidBytes.contains op
  | _ => true

/-- The instruction is one of the tables' (R83, R84). -/
abbrev WellFormed (i : Instr) : Prop := i.wellFormed = true

end Sys2Proof
end

