-- ==== Sys2Proof/Decode.lean ====
section
/-! DEFINITION. Sys2Proof/Decode.lean: the instruction a row's fields name, the decoder (30_encoding.md R71 to R83), and after
it the encoder, written row by row from opcode_table.json. -/

namespace Sys2Proof

open Sys2Proof.Machine (cat hi8 lo8)

/-! ### The constructor that a row's operand fields name

One definition per format of R71 with register, pair, condition, operation or bit fields. -/

/-- `LD r,r'` between registers (R87). -/
def Instr.ldRegReg (dst src : Reg) : Instr :=
  match dst, src with
  | .b, .b => .ld_B_B
  | .b, .c => .ld_B_C
  | .b, .d => .ld_B_D
  | .b, .e => .ld_B_E
  | .b, .h => .ld_B_H
  | .b, .l => .ld_B_L
  | .b, .a => .ld_B_A
  | .c, .b => .ld_C_B
  | .c, .c => .ld_C_C
  | .c, .d => .ld_C_D
  | .c, .e => .ld_C_E
  | .c, .h => .ld_C_H
  | .c, .l => .ld_C_L
  | .c, .a => .ld_C_A
  | .d, .b => .ld_D_B
  | .d, .c => .ld_D_C
  | .d, .d => .ld_D_D
  | .d, .e => .ld_D_E
  | .d, .h => .ld_D_H
  | .d, .l => .ld_D_L
  | .d, .a => .ld_D_A
  | .e, .b => .ld_E_B
  | .e, .c => .ld_E_C
  | .e, .d => .ld_E_D
  | .e, .e => .ld_E_E
  | .e, .h => .ld_E_H
  | .e, .l => .ld_E_L
  | .e, .a => .ld_E_A
  | .h, .b => .ld_H_B
  | .h, .c => .ld_H_C
  | .h, .d => .ld_H_D
  | .h, .e => .ld_H_E
  | .h, .h => .ld_H_H
  | .h, .l => .ld_H_L
  | .h, .a => .ld_H_A
  | .l, .b => .ld_L_B
  | .l, .c => .ld_L_C
  | .l, .d => .ld_L_D
  | .l, .e => .ld_L_E
  | .l, .h => .ld_L_H
  | .l, .l => .ld_L_L
  | .l, .a => .ld_L_A
  | .a, .b => .ld_A_B
  | .a, .c => .ld_A_C
  | .a, .d => .ld_A_D
  | .a, .e => .ld_A_E
  | .a, .h => .ld_A_H
  | .a, .l => .ld_A_L
  | .a, .a => .ld_A_A

/-- `LD r,(HL)` (R88). -/
def Instr.ldRegMem (dst : Reg) : Instr :=
  match dst with
  | .b => .ld_B_atHL
  | .c => .ld_C_atHL
  | .d => .ld_D_atHL
  | .e => .ld_E_atHL
  | .h => .ld_H_atHL
  | .l => .ld_L_atHL
  | .a => .ld_A_atHL

/-- `LD (HL),r` (R89). -/
def Instr.ldMemReg (r : Reg) : Instr :=
  match r with
  | .b => .ld_atHL_B
  | .c => .ld_atHL_C
  | .d => .ld_atHL_D
  | .e => .ld_atHL_E
  | .h => .ld_atHL_H
  | .l => .ld_atHL_L
  | .a => .ld_atHL_A

/-- `LD r,d8` (R90). -/
def Instr.ldRegImm (dst : Reg) (n : Byte) : Instr :=
  match dst with
  | .b => .ld_B_d8 n
  | .c => .ld_C_d8 n
  | .d => .ld_D_d8 n
  | .e => .ld_E_d8 n
  | .h => .ld_H_d8 n
  | .l => .ld_L_d8 n
  | .a => .ld_A_d8 n

/-- `LD A,(r16mem)` (R92, R93, R96, R97). -/
def Instr.ldAccMem (p : R16mem) : Instr :=
  match p with
  | .bc => .ld_A_atBC
  | .de => .ld_A_atDE
  | .hlInc => .ld_A_atHLinc
  | .hlDec => .ld_A_atHLdec

/-- `LD (r16mem),A` (R94, R95, R98, R99). -/
def Instr.ldMemAcc (p : R16mem) : Instr :=
  match p with
  | .bc => .ld_atBC_A
  | .de => .ld_atDE_A
  | .hlInc => .ld_atHLinc_A
  | .hlDec => .ld_atHLdec_A

/-- `LD rr,d16` (R106). -/
def Instr.ldR16 (p : R16) (v : Word) : Instr :=
  match p with
  | .bc => .ld_BC_d16 v
  | .de => .ld_DE_d16 v
  | .hl => .ld_HL_d16 v
  | .sp => .ld_SP_d16 v

/-- `PUSH rr` (R109, R110). -/
def Instr.push (p : R16stk) : Instr :=
  match p with
  | .bc => .push_BC
  | .de => .push_DE
  | .hl => .push_HL
  | .af => .push_AF

/-- `POP rr` (R111, R112). -/
def Instr.pop (p : R16stk) : Instr :=
  match p with
  | .bc => .pop_BC
  | .de => .pop_DE
  | .hl => .pop_HL
  | .af => .pop_AF

/-- An ALU operation on A and a register (R113). -/
def Instr.aluReg (op : AluOp) (r : Reg) : Instr :=
  match op, r with
  | .add, .b => .add_A_B
  | .add, .c => .add_A_C
  | .add, .d => .add_A_D
  | .add, .e => .add_A_E
  | .add, .h => .add_A_H
  | .add, .l => .add_A_L
  | .add, .a => .add_A_A
  | .adc, .b => .adc_A_B
  | .adc, .c => .adc_A_C
  | .adc, .d => .adc_A_D
  | .adc, .e => .adc_A_E
  | .adc, .h => .adc_A_H
  | .adc, .l => .adc_A_L
  | .adc, .a => .adc_A_A
  | .sub, .b => .sub_A_B
  | .sub, .c => .sub_A_C
  | .sub, .d => .sub_A_D
  | .sub, .e => .sub_A_E
  | .sub, .h => .sub_A_H
  | .sub, .l => .sub_A_L
  | .sub, .a => .sub_A_A
  | .sbc, .b => .sbc_A_B
  | .sbc, .c => .sbc_A_C
  | .sbc, .d => .sbc_A_D
  | .sbc, .e => .sbc_A_E
  | .sbc, .h => .sbc_A_H
  | .sbc, .l => .sbc_A_L
  | .sbc, .a => .sbc_A_A
  | .and, .b => .and_A_B
  | .and, .c => .and_A_C
  | .and, .d => .and_A_D
  | .and, .e => .and_A_E
  | .and, .h => .and_A_H
  | .and, .l => .and_A_L
  | .and, .a => .and_A_A
  | .xor, .b => .xor_A_B
  | .xor, .c => .xor_A_C
  | .xor, .d => .xor_A_D
  | .xor, .e => .xor_A_E
  | .xor, .h => .xor_A_H
  | .xor, .l => .xor_A_L
  | .xor, .a => .xor_A_A
  | .or, .b => .or_A_B
  | .or, .c => .or_A_C
  | .or, .d => .or_A_D
  | .or, .e => .or_A_E
  | .or, .h => .or_A_H
  | .or, .l => .or_A_L
  | .or, .a => .or_A_A
  | .cp, .b => .cp_A_B
  | .cp, .c => .cp_A_C
  | .cp, .d => .cp_A_D
  | .cp, .e => .cp_A_E
  | .cp, .h => .cp_A_H
  | .cp, .l => .cp_A_L
  | .cp, .a => .cp_A_A

/-- An ALU operation on A and the byte at HL (R113). -/
def Instr.aluMem (op : AluOp) : Instr :=
  match op with
  | .add => .add_A_atHL
  | .adc => .adc_A_atHL
  | .sub => .sub_A_atHL
  | .sbc => .sbc_A_atHL
  | .and => .and_A_atHL
  | .xor => .xor_A_atHL
  | .or => .or_A_atHL
  | .cp => .cp_A_atHL

/-- An ALU operation on A and an immediate (R113). -/
def Instr.aluImm (op : AluOp) (n : Byte) : Instr :=
  match op with
  | .add => .add_A_d8 n
  | .adc => .adc_A_d8 n
  | .sub => .sub_A_d8 n
  | .sbc => .sbc_A_d8 n
  | .and => .and_A_d8 n
  | .xor => .xor_A_d8 n
  | .or => .or_A_d8 n
  | .cp => .cp_A_d8 n

/-- `INC r` (R146). -/
def Instr.incReg (r : Reg) : Instr :=
  match r with
  | .b => .inc_B
  | .c => .inc_C
  | .d => .inc_D
  | .e => .inc_E
  | .h => .inc_H
  | .l => .inc_L
  | .a => .inc_A

/-- `DEC r` (R148). -/
def Instr.decReg (r : Reg) : Instr :=
  match r with
  | .b => .dec_B
  | .c => .dec_C
  | .d => .dec_D
  | .e => .dec_E
  | .h => .dec_H
  | .l => .dec_L
  | .a => .dec_A

/-- `INC rr` (R154). -/
def Instr.incR16 (p : R16) : Instr :=
  match p with
  | .bc => .inc_BC
  | .de => .inc_DE
  | .hl => .inc_HL
  | .sp => .inc_SP

/-- `DEC rr` (R155). -/
def Instr.decR16 (p : R16) : Instr :=
  match p with
  | .bc => .dec_BC
  | .de => .dec_DE
  | .hl => .dec_HL
  | .sp => .dec_SP

/-- `ADD HL,rr` (R156). -/
def Instr.addHl (p : R16) : Instr :=
  match p with
  | .bc => .add_HL_BC
  | .de => .add_HL_DE
  | .hl => .add_HL_HL
  | .sp => .add_HL_SP

/-- A CB-table rotate or shift of a register (R164 to R178). -/
def Instr.rotReg (op : RotOp) (r : Reg) : Instr :=
  match op, r with
  | .rlc, .b => .rlc_B
  | .rlc, .c => .rlc_C
  | .rlc, .d => .rlc_D
  | .rlc, .e => .rlc_E
  | .rlc, .h => .rlc_H
  | .rlc, .l => .rlc_L
  | .rlc, .a => .rlc_A
  | .rrc, .b => .rrc_B
  | .rrc, .c => .rrc_C
  | .rrc, .d => .rrc_D
  | .rrc, .e => .rrc_E
  | .rrc, .h => .rrc_H
  | .rrc, .l => .rrc_L
  | .rrc, .a => .rrc_A
  | .rl, .b => .rl_B
  | .rl, .c => .rl_C
  | .rl, .d => .rl_D
  | .rl, .e => .rl_E
  | .rl, .h => .rl_H
  | .rl, .l => .rl_L
  | .rl, .a => .rl_A
  | .rr, .b => .rr_B
  | .rr, .c => .rr_C
  | .rr, .d => .rr_D
  | .rr, .e => .rr_E
  | .rr, .h => .rr_H
  | .rr, .l => .rr_L
  | .rr, .a => .rr_A
  | .sla, .b => .sla_B
  | .sla, .c => .sla_C
  | .sla, .d => .sla_D
  | .sla, .e => .sla_E
  | .sla, .h => .sla_H
  | .sla, .l => .sla_L
  | .sla, .a => .sla_A
  | .sra, .b => .sra_B
  | .sra, .c => .sra_C
  | .sra, .d => .sra_D
  | .sra, .e => .sra_E
  | .sra, .h => .sra_H
  | .sra, .l => .sra_L
  | .sra, .a => .sra_A
  | .swap, .b => .swap_B
  | .swap, .c => .swap_C
  | .swap, .d => .swap_D
  | .swap, .e => .swap_E
  | .swap, .h => .swap_H
  | .swap, .l => .swap_L
  | .swap, .a => .swap_A
  | .srl, .b => .srl_B
  | .srl, .c => .srl_C
  | .srl, .d => .srl_D
  | .srl, .e => .srl_E
  | .srl, .h => .srl_H
  | .srl, .l => .srl_L
  | .srl, .a => .srl_A

/-- A CB-table rotate or shift of the byte at HL (R165 to R179). -/
def Instr.rotMem (op : RotOp) : Instr :=
  match op with
  | .rlc => .rlc_atHL
  | .rrc => .rrc_atHL
  | .rl => .rl_atHL
  | .rr => .rr_atHL
  | .sla => .sla_atHL
  | .sra => .sra_atHL
  | .swap => .swap_atHL
  | .srl => .srl_atHL

/-- `BIT b,r` (R180). -/
def Instr.bitReg (y : Oct) (r : Reg) : Instr :=
  match y, r with
  | .i0, .b => .bit_0_B
  | .i0, .c => .bit_0_C
  | .i0, .d => .bit_0_D
  | .i0, .e => .bit_0_E
  | .i0, .h => .bit_0_H
  | .i0, .l => .bit_0_L
  | .i0, .a => .bit_0_A
  | .i1, .b => .bit_1_B
  | .i1, .c => .bit_1_C
  | .i1, .d => .bit_1_D
  | .i1, .e => .bit_1_E
  | .i1, .h => .bit_1_H
  | .i1, .l => .bit_1_L
  | .i1, .a => .bit_1_A
  | .i2, .b => .bit_2_B
  | .i2, .c => .bit_2_C
  | .i2, .d => .bit_2_D
  | .i2, .e => .bit_2_E
  | .i2, .h => .bit_2_H
  | .i2, .l => .bit_2_L
  | .i2, .a => .bit_2_A
  | .i3, .b => .bit_3_B
  | .i3, .c => .bit_3_C
  | .i3, .d => .bit_3_D
  | .i3, .e => .bit_3_E
  | .i3, .h => .bit_3_H
  | .i3, .l => .bit_3_L
  | .i3, .a => .bit_3_A
  | .i4, .b => .bit_4_B
  | .i4, .c => .bit_4_C
  | .i4, .d => .bit_4_D
  | .i4, .e => .bit_4_E
  | .i4, .h => .bit_4_H
  | .i4, .l => .bit_4_L
  | .i4, .a => .bit_4_A
  | .i5, .b => .bit_5_B
  | .i5, .c => .bit_5_C
  | .i5, .d => .bit_5_D
  | .i5, .e => .bit_5_E
  | .i5, .h => .bit_5_H
  | .i5, .l => .bit_5_L
  | .i5, .a => .bit_5_A
  | .i6, .b => .bit_6_B
  | .i6, .c => .bit_6_C
  | .i6, .d => .bit_6_D
  | .i6, .e => .bit_6_E
  | .i6, .h => .bit_6_H
  | .i6, .l => .bit_6_L
  | .i6, .a => .bit_6_A
  | .i7, .b => .bit_7_B
  | .i7, .c => .bit_7_C
  | .i7, .d => .bit_7_D
  | .i7, .e => .bit_7_E
  | .i7, .h => .bit_7_H
  | .i7, .l => .bit_7_L
  | .i7, .a => .bit_7_A

/-- `BIT b,(HL)` (R181). -/
def Instr.bitMem (y : Oct) : Instr :=
  match y with
  | .i0 => .bit_0_atHL
  | .i1 => .bit_1_atHL
  | .i2 => .bit_2_atHL
  | .i3 => .bit_3_atHL
  | .i4 => .bit_4_atHL
  | .i5 => .bit_5_atHL
  | .i6 => .bit_6_atHL
  | .i7 => .bit_7_atHL

/-- `RES b,r` (R182). -/
def Instr.resReg (y : Oct) (r : Reg) : Instr :=
  match y, r with
  | .i0, .b => .res_0_B
  | .i0, .c => .res_0_C
  | .i0, .d => .res_0_D
  | .i0, .e => .res_0_E
  | .i0, .h => .res_0_H
  | .i0, .l => .res_0_L
  | .i0, .a => .res_0_A
  | .i1, .b => .res_1_B
  | .i1, .c => .res_1_C
  | .i1, .d => .res_1_D
  | .i1, .e => .res_1_E
  | .i1, .h => .res_1_H
  | .i1, .l => .res_1_L
  | .i1, .a => .res_1_A
  | .i2, .b => .res_2_B
  | .i2, .c => .res_2_C
  | .i2, .d => .res_2_D
  | .i2, .e => .res_2_E
  | .i2, .h => .res_2_H
  | .i2, .l => .res_2_L
  | .i2, .a => .res_2_A
  | .i3, .b => .res_3_B
  | .i3, .c => .res_3_C
  | .i3, .d => .res_3_D
  | .i3, .e => .res_3_E
  | .i3, .h => .res_3_H
  | .i3, .l => .res_3_L
  | .i3, .a => .res_3_A
  | .i4, .b => .res_4_B
  | .i4, .c => .res_4_C
  | .i4, .d => .res_4_D
  | .i4, .e => .res_4_E
  | .i4, .h => .res_4_H
  | .i4, .l => .res_4_L
  | .i4, .a => .res_4_A
  | .i5, .b => .res_5_B
  | .i5, .c => .res_5_C
  | .i5, .d => .res_5_D
  | .i5, .e => .res_5_E
  | .i5, .h => .res_5_H
  | .i5, .l => .res_5_L
  | .i5, .a => .res_5_A
  | .i6, .b => .res_6_B
  | .i6, .c => .res_6_C
  | .i6, .d => .res_6_D
  | .i6, .e => .res_6_E
  | .i6, .h => .res_6_H
  | .i6, .l => .res_6_L
  | .i6, .a => .res_6_A
  | .i7, .b => .res_7_B
  | .i7, .c => .res_7_C
  | .i7, .d => .res_7_D
  | .i7, .e => .res_7_E
  | .i7, .h => .res_7_H
  | .i7, .l => .res_7_L
  | .i7, .a => .res_7_A

/-- `RES b,(HL)` (R183). -/
def Instr.resMem (y : Oct) : Instr :=
  match y with
  | .i0 => .res_0_atHL
  | .i1 => .res_1_atHL
  | .i2 => .res_2_atHL
  | .i3 => .res_3_atHL
  | .i4 => .res_4_atHL
  | .i5 => .res_5_atHL
  | .i6 => .res_6_atHL
  | .i7 => .res_7_atHL

/-- `SET b,r` (R184). -/
def Instr.setReg (y : Oct) (r : Reg) : Instr :=
  match y, r with
  | .i0, .b => .set_0_B
  | .i0, .c => .set_0_C
  | .i0, .d => .set_0_D
  | .i0, .e => .set_0_E
  | .i0, .h => .set_0_H
  | .i0, .l => .set_0_L
  | .i0, .a => .set_0_A
  | .i1, .b => .set_1_B
  | .i1, .c => .set_1_C
  | .i1, .d => .set_1_D
  | .i1, .e => .set_1_E
  | .i1, .h => .set_1_H
  | .i1, .l => .set_1_L
  | .i1, .a => .set_1_A
  | .i2, .b => .set_2_B
  | .i2, .c => .set_2_C
  | .i2, .d => .set_2_D
  | .i2, .e => .set_2_E
  | .i2, .h => .set_2_H
  | .i2, .l => .set_2_L
  | .i2, .a => .set_2_A
  | .i3, .b => .set_3_B
  | .i3, .c => .set_3_C
  | .i3, .d => .set_3_D
  | .i3, .e => .set_3_E
  | .i3, .h => .set_3_H
  | .i3, .l => .set_3_L
  | .i3, .a => .set_3_A
  | .i4, .b => .set_4_B
  | .i4, .c => .set_4_C
  | .i4, .d => .set_4_D
  | .i4, .e => .set_4_E
  | .i4, .h => .set_4_H
  | .i4, .l => .set_4_L
  | .i4, .a => .set_4_A
  | .i5, .b => .set_5_B
  | .i5, .c => .set_5_C
  | .i5, .d => .set_5_D
  | .i5, .e => .set_5_E
  | .i5, .h => .set_5_H
  | .i5, .l => .set_5_L
  | .i5, .a => .set_5_A
  | .i6, .b => .set_6_B
  | .i6, .c => .set_6_C
  | .i6, .d => .set_6_D
  | .i6, .e => .set_6_E
  | .i6, .h => .set_6_H
  | .i6, .l => .set_6_L
  | .i6, .a => .set_6_A
  | .i7, .b => .set_7_B
  | .i7, .c => .set_7_C
  | .i7, .d => .set_7_D
  | .i7, .e => .set_7_E
  | .i7, .h => .set_7_H
  | .i7, .l => .set_7_L
  | .i7, .a => .set_7_A

/-- `SET b,(HL)` (R185). -/
def Instr.setMem (y : Oct) : Instr :=
  match y with
  | .i0 => .set_0_atHL
  | .i1 => .set_1_atHL
  | .i2 => .set_2_atHL
  | .i3 => .set_3_atHL
  | .i4 => .set_4_atHL
  | .i5 => .set_5_atHL
  | .i6 => .set_6_atHL
  | .i7 => .set_7_atHL

/-- `JP cc,a16` (R187). -/
def Instr.jpCond (k : Cond) (a : Word) : Instr :=
  match k with
  | .nz => .jp_NZ_a16 a
  | .z => .jp_Z_a16 a
  | .nc => .jp_NC_a16 a
  | .c => .jp_C_a16 a

/-- `JR cc,e8` (R190). -/
def Instr.jrCond (k : Cond) (e : Byte) : Instr :=
  match k with
  | .nz => .jr_NZ_e8 e
  | .z => .jr_Z_e8 e
  | .nc => .jr_NC_e8 e
  | .c => .jr_C_e8 e

/-- `CALL cc,a16` (R192). -/
def Instr.callCond (k : Cond) (a : Word) : Instr :=
  match k with
  | .nz => .call_NZ_a16 a
  | .z => .call_Z_a16 a
  | .nc => .call_NC_a16 a
  | .c => .call_C_a16 a

/-- `RET cc` (R194). -/
def Instr.retCond (k : Cond) : Instr :=
  match k with
  | .nz => .ret_NZ
  | .z => .ret_Z
  | .nc => .ret_NC
  | .c => .ret_C

/-- `RST t` with the target 8 * y (R196). -/
def Instr.rst (y : Oct) : Instr :=
  match y with
  | .i0 => .rst_00
  | .i1 => .rst_08
  | .i2 => .rst_10
  | .i3 => .rst_18
  | .i4 => .rst_20
  | .i5 => .rst_28
  | .i6 => .rst_30
  | .i7 => .rst_38

/-! ### Operand fields -/

/-- The 3-bit field with a given value; values above 7 do not occur. -/
def octOf (n : Nat) : Oct :=
  match n with
  | 0 => .i0
  | 1 => .i1
  | 2 => .i2
  | 3 => .i3
  | 4 => .i4
  | 5 => .i5
  | 6 => .i6
  | _ => .i7

/-- x = b[7:6] (R72). -/
def fieldX (b : Byte) : Nat := b.toNat / 64

/-- y = b[5:3] (R72). -/
def fieldY (b : Byte) : Oct := octOf (b.toNat / 8 % 8)

/-- z = b[2:0] (R72). -/
def fieldZ (b : Byte) : Oct := octOf (b.toNat % 8)

/-- The `r8` operand of a field (R73). -/
def r8Of : Oct → R8
  | .i0 => .reg .b
  | .i1 => .reg .c
  | .i2 => .reg .d
  | .i3 => .reg .e
  | .i4 => .reg .h
  | .i5 => .reg .l
  | .i6 => .atHL
  | .i7 => .reg .a

/-- The ALU operation of a field (R81). -/
def aluOf : Oct → AluOp
  | .i0 => .add
  | .i1 => .adc
  | .i2 => .sub
  | .i3 => .sbc
  | .i4 => .and
  | .i5 => .xor
  | .i6 => .or
  | .i7 => .cp

/-- The rotate or shift of a field (R82). -/
def rotOf : Oct → RotOp
  | .i0 => .rlc
  | .i1 => .rrc
  | .i2 => .rl
  | .i3 => .rr
  | .i4 => .sla
  | .i5 => .sra
  | .i6 => .swap
  | .i7 => .srl

/-! ### Instructions of an `r8` operand -/

/-- `LD r8,r8` (R81, x = 1): the slot of `LD (HL),(HL)` is HALT (R84). -/
def Instr.ldR8 (dst src : R8) : Instr :=
  match dst, src with
  | .reg dst, .reg src => .ldRegReg dst src
  | .reg dst, .atHL => .ldRegMem dst
  | .atHL, .reg src => .ldMemReg src
  | .atHL, .atHL => .halt

/-- An ALU operation on A and an `r8` operand (R81, x = 2). -/
def Instr.aluR8 (op : AluOp) (r : R8) : Instr :=
  match r with
  | .reg r => .aluReg op r
  | .atHL => .aluMem op

/-- INC of an `r8` operand. -/
def Instr.incR8 (r : R8) : Instr :=
  match r with
  | .reg r => .incReg r
  | .atHL => .inc_atHL

/-- DEC of an `r8` operand. -/
def Instr.decR8 (r : R8) : Instr :=
  match r with
  | .reg r => .decReg r
  | .atHL => .dec_atHL

/-- `LD r8,d8`. -/
def Instr.ldR8Imm (dst : R8) (n : Byte) : Instr :=
  match dst with
  | .reg dst => .ldRegImm dst n
  | .atHL => .ld_atHL_d8 n

/-- A rotate or shift of an `r8` operand (R82, x = 0). -/
def Instr.rotR8 (op : RotOp) (r : R8) : Instr :=
  match r with
  | .reg r => .rotReg op r
  | .atHL => .rotMem op

/-- BIT of an `r8` operand (R82, x = 1). -/
def Instr.bitR8 (y : Oct) (r : R8) : Instr :=
  match r with
  | .reg r => .bitReg y r
  | .atHL => .bitMem y

/-- RES of an `r8` operand (R82, x = 2). -/
def Instr.resR8 (y : Oct) (r : R8) : Instr :=
  match r with
  | .reg r => .resReg y r
  | .atHL => .resMem y

/-- SET of an `r8` operand (R82, x = 3). -/
def Instr.setR8 (y : Oct) (r : R8) : Instr :=
  match r with
  | .reg r => .setReg y r
  | .atHL => .setMem y

/-! ### The decoder

Each function decodes one column z of a quadrant of the main table (R81): `b1` and `b2` are the bytes after the
opcode byte, of which an instruction takes none, one or two (R79). -/

/-- Main table, x = 0, z = 0. -/
def decodeX0Z0 (y : Oct) (b1 b2 : Byte) : Instr :=
  match y with
  | .i0 => .nop
  | .i1 => .ld_ata16_SP (cat b2 b1)
  | .i2 => .stop
  | .i3 => .jr_e8 b1
  | .i4 => .jrCond .nz b1
  | .i5 => .jrCond .z b1
  | .i6 => .jrCond .nc b1
  | .i7 => .jrCond .c b1

/-- Main table, x = 0, z = 1. -/
def decodeX0Z1 (y : Oct) (b1 b2 : Byte) : Instr :=
  match y with
  | .i0 => .ldR16 .bc (cat b2 b1)
  | .i1 => .addHl .bc
  | .i2 => .ldR16 .de (cat b2 b1)
  | .i3 => .addHl .de
  | .i4 => .ldR16 .hl (cat b2 b1)
  | .i5 => .addHl .hl
  | .i6 => .ldR16 .sp (cat b2 b1)
  | .i7 => .addHl .sp

/-- Main table, x = 0, z = 2. -/
def decodeX0Z2 (y : Oct) : Instr :=
  match y with
  | .i0 => .ldMemAcc .bc
  | .i1 => .ldAccMem .bc
  | .i2 => .ldMemAcc .de
  | .i3 => .ldAccMem .de
  | .i4 => .ldMemAcc .hlInc
  | .i5 => .ldAccMem .hlInc
  | .i6 => .ldMemAcc .hlDec
  | .i7 => .ldAccMem .hlDec

/-- Main table, x = 0, z = 3. -/
def decodeX0Z3 (y : Oct) : Instr :=
  match y with
  | .i0 => .incR16 .bc
  | .i1 => .decR16 .bc
  | .i2 => .incR16 .de
  | .i3 => .decR16 .de
  | .i4 => .incR16 .hl
  | .i5 => .decR16 .hl
  | .i6 => .incR16 .sp
  | .i7 => .decR16 .sp

/-- Main table, x = 0, z = 7. -/
def decodeX0Z7 (y : Oct) : Instr :=
  match y with
  | .i0 => .rlca
  | .i1 => .rrca
  | .i2 => .rla
  | .i3 => .rra
  | .i4 => .daa
  | .i5 => .cpl
  | .i6 => .scf
  | .i7 => .ccf

/-- Main table, x = 0. -/
def decodeX0 (y z : Oct) (b1 b2 : Byte) : Instr :=
  match z with
  | .i0 => decodeX0Z0 y b1 b2
  | .i1 => decodeX0Z1 y b1 b2
  | .i2 => decodeX0Z2 y
  | .i3 => decodeX0Z3 y
  | .i4 => .incR8 (r8Of y)
  | .i5 => .decR8 (r8Of y)
  | .i6 => .ldR8Imm (r8Of y) b1
  | .i7 => decodeX0Z7 y

/-- Main table, x = 3, z = 0. -/
def decodeX3Z0 (y : Oct) (b1 : Byte) : Instr :=
  match y with
  | .i0 => .retCond .nz
  | .i1 => .retCond .z
  | .i2 => .retCond .nc
  | .i3 => .retCond .c
  | .i4 => .ldh_ata8_A b1
  | .i5 => .add_SP_e8 b1
  | .i6 => .ldh_A_ata8 b1
  | .i7 => .ld_HL_SPe8 b1

/-- Main table, x = 3, z = 1. -/
def decodeX3Z1 (y : Oct) : Instr :=
  match y with
  | .i0 => .pop .bc
  | .i1 => .ret
  | .i2 => .pop .de
  | .i3 => .reti
  | .i4 => .pop .hl
  | .i5 => .jp_HL
  | .i6 => .pop .af
  | .i7 => .ld_SP_HL

/-- Main table, x = 3, z = 2. -/
def decodeX3Z2 (y : Oct) (b1 b2 : Byte) : Instr :=
  match y with
  | .i0 => .jpCond .nz (cat b2 b1)
  | .i1 => .jpCond .z (cat b2 b1)
  | .i2 => .jpCond .nc (cat b2 b1)
  | .i3 => .jpCond .c (cat b2 b1)
  | .i4 => .ld_atC_A
  | .i5 => .ld_ata16_A (cat b2 b1)
  | .i6 => .ld_A_atC
  | .i7 => .ld_A_ata16 (cat b2 b1)

/-- Main table, x = 3, z = 3. -/
def decodeX3Z3 (op : Byte) (y : Oct) (b1 b2 : Byte) : Instr :=
  match y with
  | .i0 => .jp_a16 (cat b2 b1)
  | .i1 => .prefixCb
  | .i2 => .invalid op
  | .i3 => .invalid op
  | .i4 => .invalid op
  | .i5 => .invalid op
  | .i6 => .di
  | .i7 => .ei

/-- Main table, x = 3, z = 4. -/
def decodeX3Z4 (op : Byte) (y : Oct) (b1 b2 : Byte) : Instr :=
  match y with
  | .i0 => .callCond .nz (cat b2 b1)
  | .i1 => .callCond .z (cat b2 b1)
  | .i2 => .callCond .nc (cat b2 b1)
  | .i3 => .callCond .c (cat b2 b1)
  | .i4 => .invalid op
  | .i5 => .invalid op
  | .i6 => .invalid op
  | .i7 => .invalid op

/-- Main table, x = 3, z = 5. -/
def decodeX3Z5 (op : Byte) (y : Oct) (b1 b2 : Byte) : Instr :=
  match y with
  | .i0 => .push .bc
  | .i1 => .call_a16 (cat b2 b1)
  | .i2 => .push .de
  | .i3 => .invalid op
  | .i4 => .push .hl
  | .i5 => .invalid op
  | .i6 => .push .af
  | .i7 => .invalid op

/-- Main table, x = 3. -/
def decodeX3 (op : Byte) (y z : Oct) (b1 b2 : Byte) : Instr :=
  match z with
  | .i0 => decodeX3Z0 y b1
  | .i1 => decodeX3Z1 y
  | .i2 => decodeX3Z2 y b1 b2
  | .i3 => decodeX3Z3 op y b1 b2
  | .i4 => decodeX3Z4 op y b1 b2
  | .i5 => decodeX3Z5 op y b1 b2
  | .i6 => .aluImm (aluOf y) b1
  | .i7 => .rst y

/-- `MAIN_TABLE[op]` with its operand bytes (R81). -/
def decodeMain (op b1 b2 : Byte) : Instr :=
  match fieldX op with
  | 0 => decodeX0 (fieldY op) (fieldZ op) b1 b2
  | 1 => .ldR8 (r8Of (fieldY op)) (r8Of (fieldZ op))
  | 2 => .aluR8 (aluOf (fieldY op)) (r8Of (fieldZ op))
  | _ => decodeX3 op (fieldY op) (fieldZ op) b1 b2

/-- `CB_TABLE[cbop]` (R82): complete, every value is defined. -/
def decodeCb (cbop : Byte) : Instr :=
  match fieldX cbop with
  | 0 => .rotR8 (rotOf (fieldY cbop)) (r8Of (fieldZ cbop))
  | 1 => .bitR8 (fieldY cbop) (r8Of (fieldZ cbop))
  | 2 => .resR8 (fieldY cbop) (r8Of (fieldZ cbop))
  | _ => .setR8 (fieldY cbop) (r8Of (fieldZ cbop))

/-- The instruction at the head of a window of three bytes, the longest an instruction can be (R71, R80): the escape
byte 0xCB consults the second table. -/
def decodeWindow (op b1 b2 : Byte) : Instr :=
  if op = 0xCB then decodeCb b1 else decodeMain op b1 b2

/-- Whether an instruction belongs to the CB table (R82): its first byte is the escape byte. -/
def Instr.isCb (i : Instr) : Bool :=
  match i with
  | .rlc_B => true
  | .rlc_C => true
  | .rlc_D => true
  | .rlc_E => true
  | .rlc_H => true
  | .rlc_L => true
  | .rlc_A => true
  | .rlc_atHL => true
  | .rrc_B => true
  | .rrc_C => true
  | .rrc_D => true
  | .rrc_E => true
  | .rrc_H => true
  | .rrc_L => true
  | .rrc_A => true
  | .rrc_atHL => true
  | .rl_B => true
  | .rl_C => true
  | .rl_D => true
  | .rl_E => true
  | .rl_H => true
  | .rl_L => true
  | .rl_A => true
  | .rl_atHL => true
  | .rr_B => true
  | .rr_C => true
  | .rr_D => true
  | .rr_E => true
  | .rr_H => true
  | .rr_L => true
  | .rr_A => true
  | .rr_atHL => true
  | .sla_B => true
  | .sla_C => true
  | .sla_D => true
  | .sla_E => true
  | .sla_H => true
  | .sla_L => true
  | .sla_A => true
  | .sla_atHL => true
  | .sra_B => true
  | .sra_C => true
  | .sra_D => true
  | .sra_E => true
  | .sra_H => true
  | .sra_L => true
  | .sra_A => true
  | .sra_atHL => true
  | .swap_B => true
  | .swap_C => true
  | .swap_D => true
  | .swap_E => true
  | .swap_H => true
  | .swap_L => true
  | .swap_A => true
  | .swap_atHL => true
  | .srl_B => true
  | .srl_C => true
  | .srl_D => true
  | .srl_E => true
  | .srl_H => true
  | .srl_L => true
  | .srl_A => true
  | .srl_atHL => true
  | .bit_0_B => true
  | .bit_0_C => true
  | .bit_0_D => true
  | .bit_0_E => true
  | .bit_0_H => true
  | .bit_0_L => true
  | .bit_0_A => true
  | .bit_1_B => true
  | .bit_1_C => true
  | .bit_1_D => true
  | .bit_1_E => true
  | .bit_1_H => true
  | .bit_1_L => true
  | .bit_1_A => true
  | .bit_2_B => true
  | .bit_2_C => true
  | .bit_2_D => true
  | .bit_2_E => true
  | .bit_2_H => true
  | .bit_2_L => true
  | .bit_2_A => true
  | .bit_3_B => true
  | .bit_3_C => true
  | .bit_3_D => true
  | .bit_3_E => true
  | .bit_3_H => true
  | .bit_3_L => true
  | .bit_3_A => true
  | .bit_4_B => true
  | .bit_4_C => true
  | .bit_4_D => true
  | .bit_4_E => true
  | .bit_4_H => true
  | .bit_4_L => true
  | .bit_4_A => true
  | .bit_5_B => true
  | .bit_5_C => true
  | .bit_5_D => true
  | .bit_5_E => true
  | .bit_5_H => true
  | .bit_5_L => true
  | .bit_5_A => true
  | .bit_6_B => true
  | .bit_6_C => true
  | .bit_6_D => true
  | .bit_6_E => true
  | .bit_6_H => true
  | .bit_6_L => true
  | .bit_6_A => true
  | .bit_7_B => true
  | .bit_7_C => true
  | .bit_7_D => true
  | .bit_7_E => true
  | .bit_7_H => true
  | .bit_7_L => true
  | .bit_7_A => true
  | .bit_0_atHL => true
  | .bit_1_atHL => true
  | .bit_2_atHL => true
  | .bit_3_atHL => true
  | .bit_4_atHL => true
  | .bit_5_atHL => true
  | .bit_6_atHL => true
  | .bit_7_atHL => true
  | .res_0_B => true
  | .res_0_C => true
  | .res_0_D => true
  | .res_0_E => true
  | .res_0_H => true
  | .res_0_L => true
  | .res_0_A => true
  | .res_1_B => true
  | .res_1_C => true
  | .res_1_D => true
  | .res_1_E => true
  | .res_1_H => true
  | .res_1_L => true
  | .res_1_A => true
  | .res_2_B => true
  | .res_2_C => true
  | .res_2_D => true
  | .res_2_E => true
  | .res_2_H => true
  | .res_2_L => true
  | .res_2_A => true
  | .res_3_B => true
  | .res_3_C => true
  | .res_3_D => true
  | .res_3_E => true
  | .res_3_H => true
  | .res_3_L => true
  | .res_3_A => true
  | .res_4_B => true
  | .res_4_C => true
  | .res_4_D => true
  | .res_4_E => true
  | .res_4_H => true
  | .res_4_L => true
  | .res_4_A => true
  | .res_5_B => true
  | .res_5_C => true
  | .res_5_D => true
  | .res_5_E => true
  | .res_5_H => true
  | .res_5_L => true
  | .res_5_A => true
  | .res_6_B => true
  | .res_6_C => true
  | .res_6_D => true
  | .res_6_E => true
  | .res_6_H => true
  | .res_6_L => true
  | .res_6_A => true
  | .res_7_B => true
  | .res_7_C => true
  | .res_7_D => true
  | .res_7_E => true
  | .res_7_H => true
  | .res_7_L => true
  | .res_7_A => true
  | .res_0_atHL => true
  | .res_1_atHL => true
  | .res_2_atHL => true
  | .res_3_atHL => true
  | .res_4_atHL => true
  | .res_5_atHL => true
  | .res_6_atHL => true
  | .res_7_atHL => true
  | .set_0_B => true
  | .set_0_C => true
  | .set_0_D => true
  | .set_0_E => true
  | .set_0_H => true
  | .set_0_L => true
  | .set_0_A => true
  | .set_1_B => true
  | .set_1_C => true
  | .set_1_D => true
  | .set_1_E => true
  | .set_1_H => true
  | .set_1_L => true
  | .set_1_A => true
  | .set_2_B => true
  | .set_2_C => true
  | .set_2_D => true
  | .set_2_E => true
  | .set_2_H => true
  | .set_2_L => true
  | .set_2_A => true
  | .set_3_B => true
  | .set_3_C => true
  | .set_3_D => true
  | .set_3_E => true
  | .set_3_H => true
  | .set_3_L => true
  | .set_3_A => true
  | .set_4_B => true
  | .set_4_C => true
  | .set_4_D => true
  | .set_4_E => true
  | .set_4_H => true
  | .set_4_L => true
  | .set_4_A => true
  | .set_5_B => true
  | .set_5_C => true
  | .set_5_D => true
  | .set_5_E => true
  | .set_5_H => true
  | .set_5_L => true
  | .set_5_A => true
  | .set_6_B => true
  | .set_6_C => true
  | .set_6_D => true
  | .set_6_E => true
  | .set_6_H => true
  | .set_6_L => true
  | .set_6_A => true
  | .set_7_B => true
  | .set_7_C => true
  | .set_7_D => true
  | .set_7_E => true
  | .set_7_H => true
  | .set_7_L => true
  | .set_7_A => true
  | .set_0_atHL => true
  | .set_1_atHL => true
  | .set_2_atHL => true
  | .set_3_atHL => true
  | .set_4_atHL => true
  | .set_5_atHL => true
  | .set_6_atHL => true
  | .set_7_atHL => true
  | _ => false

/-- How many bytes an instruction takes (R71); STOP takes `STOP_LENGTH` (45_system.md R200). -/
def Instr.length (stop : StopLength) (i : Instr) : Nat :=
  match i with
  | .ld_B_d8 _ => 2
  | .ld_C_d8 _ => 2
  | .ld_D_d8 _ => 2
  | .ld_E_d8 _ => 2
  | .ld_H_d8 _ => 2
  | .ld_L_d8 _ => 2
  | .ld_A_d8 _ => 2
  | .ld_atHL_d8 _ => 2
  | .ld_A_ata16 _ => 3
  | .ld_ata16_A _ => 3
  | .ldh_A_ata8 _ => 2
  | .ldh_ata8_A _ => 2
  | .ld_BC_d16 _ => 3
  | .ld_DE_d16 _ => 3
  | .ld_HL_d16 _ => 3
  | .ld_SP_d16 _ => 3
  | .ld_ata16_SP _ => 3
  | .add_A_d8 _ => 2
  | .adc_A_d8 _ => 2
  | .sub_A_d8 _ => 2
  | .sbc_A_d8 _ => 2
  | .and_A_d8 _ => 2
  | .xor_A_d8 _ => 2
  | .or_A_d8 _ => 2
  | .cp_A_d8 _ => 2
  | .add_SP_e8 _ => 2
  | .ld_HL_SPe8 _ => 2
  | .jp_a16 _ => 3
  | .jp_NZ_a16 _ => 3
  | .jp_Z_a16 _ => 3
  | .jp_NC_a16 _ => 3
  | .jp_C_a16 _ => 3
  | .jr_e8 _ => 2
  | .jr_NZ_e8 _ => 2
  | .jr_Z_e8 _ => 2
  | .jr_NC_e8 _ => 2
  | .jr_C_e8 _ => 2
  | .call_a16 _ => 3
  | .call_NZ_a16 _ => 3
  | .call_Z_a16 _ => 3
  | .call_NC_a16 _ => 3
  | .call_C_a16 _ => 3
  | .stop => match stop with | .one => 1 | .two => 2
  | i => if i.isCb then 2 else 1

/-- Why a list of bytes holds no whole instruction. -/
inductive DecodeError
  /-- There is no opcode byte. -/
  | noBytes
  /-- The operand bytes of this opcode are missing. -/
  | truncated (op : Byte)
  deriving DecidableEq, Repr

/-- Decodes the instruction at the head of a list of bytes, total on every list (R80). A lone escape byte is the row
PREFIX of the main table: the byte it needs is not there yet. STOP's ignored byte may be absent. -/
def decode (bytes : List Byte) : Except DecodeError Instr :=
  match bytes with
  | [] => .error .noBytes
  | [op] =>
    if (decodeMain op 0 0).length .one ≤ 1 then .ok (decodeMain op 0 0) else .error (.truncated op)
  | [op, b1] =>
    if (decodeWindow op b1 0).length .one ≤ 2 then .ok (decodeWindow op b1 0) else .error (.truncated op)
  | op :: b1 :: b2 :: _ => .ok (decodeWindow op b1 b2)

/-! ### The encoder -/

/-- The bytes of an instruction, row by row from opcode_table.json (R81, R82, R79). STOP assembles as `10 00` (R86). -/
def encode (i : Instr) : List Byte :=
  match i with
  | .ld_B_B => [0x40]
  | .ld_B_C => [0x41]
  | .ld_B_D => [0x42]
  | .ld_B_E => [0x43]
  | .ld_B_H => [0x44]
  | .ld_B_L => [0x45]
  | .ld_B_A => [0x47]
  | .ld_C_B => [0x48]
  | .ld_C_C => [0x49]
  | .ld_C_D => [0x4A]
  | .ld_C_E => [0x4B]
  | .ld_C_H => [0x4C]
  | .ld_C_L => [0x4D]
  | .ld_C_A => [0x4F]
  | .ld_D_B => [0x50]
  | .ld_D_C => [0x51]
  | .ld_D_D => [0x52]
  | .ld_D_E => [0x53]
  | .ld_D_H => [0x54]
  | .ld_D_L => [0x55]
  | .ld_D_A => [0x57]
  | .ld_E_B => [0x58]
  | .ld_E_C => [0x59]
  | .ld_E_D => [0x5A]
  | .ld_E_E => [0x5B]
  | .ld_E_H => [0x5C]
  | .ld_E_L => [0x5D]
  | .ld_E_A => [0x5F]
  | .ld_H_B => [0x60]
  | .ld_H_C => [0x61]
  | .ld_H_D => [0x62]
  | .ld_H_E => [0x63]
  | .ld_H_H => [0x64]
  | .ld_H_L => [0x65]
  | .ld_H_A => [0x67]
  | .ld_L_B => [0x68]
  | .ld_L_C => [0x69]
  | .ld_L_D => [0x6A]
  | .ld_L_E => [0x6B]
  | .ld_L_H => [0x6C]
  | .ld_L_L => [0x6D]
  | .ld_L_A => [0x6F]
  | .ld_A_B => [0x78]
  | .ld_A_C => [0x79]
  | .ld_A_D => [0x7A]
  | .ld_A_E => [0x7B]
  | .ld_A_H => [0x7C]
  | .ld_A_L => [0x7D]
  | .ld_A_A => [0x7F]
  | .ld_B_atHL => [0x46]
  | .ld_C_atHL => [0x4E]
  | .ld_D_atHL => [0x56]
  | .ld_E_atHL => [0x5E]
  | .ld_H_atHL => [0x66]
  | .ld_L_atHL => [0x6E]
  | .ld_A_atHL => [0x7E]
  | .ld_atHL_B => [0x70]
  | .ld_atHL_C => [0x71]
  | .ld_atHL_D => [0x72]
  | .ld_atHL_E => [0x73]
  | .ld_atHL_H => [0x74]
  | .ld_atHL_L => [0x75]
  | .ld_atHL_A => [0x77]
  | .ld_B_d8 n => [0x06, n]
  | .ld_C_d8 n => [0x0E, n]
  | .ld_D_d8 n => [0x16, n]
  | .ld_E_d8 n => [0x1E, n]
  | .ld_H_d8 n => [0x26, n]
  | .ld_L_d8 n => [0x2E, n]
  | .ld_A_d8 n => [0x3E, n]
  | .ld_atHL_d8 n => [0x36, n]
  | .ld_A_atBC => [0x0A]
  | .ld_A_atDE => [0x1A]
  | .ld_atBC_A => [0x02]
  | .ld_atDE_A => [0x12]
  | .ld_A_atHLinc => [0x2A]
  | .ld_A_atHLdec => [0x3A]
  | .ld_atHLinc_A => [0x22]
  | .ld_atHLdec_A => [0x32]
  | .ld_A_ata16 a => [0xFA, lo8 a, hi8 a]
  | .ld_ata16_A a => [0xEA, lo8 a, hi8 a]
  | .ldh_A_ata8 n => [0xF0, n]
  | .ldh_ata8_A n => [0xE0, n]
  | .ld_A_atC => [0xF2]
  | .ld_atC_A => [0xE2]
  | .ld_BC_d16 v => [0x01, lo8 v, hi8 v]
  | .ld_DE_d16 v => [0x11, lo8 v, hi8 v]
  | .ld_HL_d16 v => [0x21, lo8 v, hi8 v]
  | .ld_SP_d16 v => [0x31, lo8 v, hi8 v]
  | .ld_ata16_SP a => [0x08, lo8 a, hi8 a]
  | .ld_SP_HL => [0xF9]
  | .push_BC => [0xC5]
  | .push_DE => [0xD5]
  | .push_HL => [0xE5]
  | .push_AF => [0xF5]
  | .pop_BC => [0xC1]
  | .pop_DE => [0xD1]
  | .pop_HL => [0xE1]
  | .pop_AF => [0xF1]
  | .add_A_B => [0x80]
  | .add_A_C => [0x81]
  | .add_A_D => [0x82]
  | .add_A_E => [0x83]
  | .add_A_H => [0x84]
  | .add_A_L => [0x85]
  | .add_A_A => [0x87]
  | .add_A_atHL => [0x86]
  | .add_A_d8 n => [0xC6, n]
  | .adc_A_B => [0x88]
  | .adc_A_C => [0x89]
  | .adc_A_D => [0x8A]
  | .adc_A_E => [0x8B]
  | .adc_A_H => [0x8C]
  | .adc_A_L => [0x8D]
  | .adc_A_A => [0x8F]
  | .adc_A_atHL => [0x8E]
  | .adc_A_d8 n => [0xCE, n]
  | .sub_A_B => [0x90]
  | .sub_A_C => [0x91]
  | .sub_A_D => [0x92]
  | .sub_A_E => [0x93]
  | .sub_A_H => [0x94]
  | .sub_A_L => [0x95]
  | .sub_A_A => [0x97]
  | .sub_A_atHL => [0x96]
  | .sub_A_d8 n => [0xD6, n]
  | .sbc_A_B => [0x98]
  | .sbc_A_C => [0x99]
  | .sbc_A_D => [0x9A]
  | .sbc_A_E => [0x9B]
  | .sbc_A_H => [0x9C]
  | .sbc_A_L => [0x9D]
  | .sbc_A_A => [0x9F]
  | .sbc_A_atHL => [0x9E]
  | .sbc_A_d8 n => [0xDE, n]
  | .and_A_B => [0xA0]
  | .and_A_C => [0xA1]
  | .and_A_D => [0xA2]
  | .and_A_E => [0xA3]
  | .and_A_H => [0xA4]
  | .and_A_L => [0xA5]
  | .and_A_A => [0xA7]
  | .and_A_atHL => [0xA6]
  | .and_A_d8 n => [0xE6, n]
  | .xor_A_B => [0xA8]
  | .xor_A_C => [0xA9]
  | .xor_A_D => [0xAA]
  | .xor_A_E => [0xAB]
  | .xor_A_H => [0xAC]
  | .xor_A_L => [0xAD]
  | .xor_A_A => [0xAF]
  | .xor_A_atHL => [0xAE]
  | .xor_A_d8 n => [0xEE, n]
  | .or_A_B => [0xB0]
  | .or_A_C => [0xB1]
  | .or_A_D => [0xB2]
  | .or_A_E => [0xB3]
  | .or_A_H => [0xB4]
  | .or_A_L => [0xB5]
  | .or_A_A => [0xB7]
  | .or_A_atHL => [0xB6]
  | .or_A_d8 n => [0xF6, n]
  | .cp_A_B => [0xB8]
  | .cp_A_C => [0xB9]
  | .cp_A_D => [0xBA]
  | .cp_A_E => [0xBB]
  | .cp_A_H => [0xBC]
  | .cp_A_L => [0xBD]
  | .cp_A_A => [0xBF]
  | .cp_A_atHL => [0xBE]
  | .cp_A_d8 n => [0xFE, n]
  | .inc_B => [0x04]
  | .inc_C => [0x0C]
  | .inc_D => [0x14]
  | .inc_E => [0x1C]
  | .inc_H => [0x24]
  | .inc_L => [0x2C]
  | .inc_A => [0x3C]
  | .inc_atHL => [0x34]
  | .dec_B => [0x05]
  | .dec_C => [0x0D]
  | .dec_D => [0x15]
  | .dec_E => [0x1D]
  | .dec_H => [0x25]
  | .dec_L => [0x2D]
  | .dec_A => [0x3D]
  | .dec_atHL => [0x35]
  | .daa => [0x27]
  | .cpl => [0x2F]
  | .scf => [0x37]
  | .ccf => [0x3F]
  | .inc_BC => [0x03]
  | .inc_DE => [0x13]
  | .inc_HL => [0x23]
  | .inc_SP => [0x33]
  | .dec_BC => [0x0B]
  | .dec_DE => [0x1B]
  | .dec_HL => [0x2B]
  | .dec_SP => [0x3B]
  | .add_HL_BC => [0x09]
  | .add_HL_DE => [0x19]
  | .add_HL_HL => [0x29]
  | .add_HL_SP => [0x39]
  | .add_SP_e8 e => [0xE8, e]
  | .ld_HL_SPe8 e => [0xF8, e]
  | .rlca => [0x07]
  | .rrca => [0x0F]
  | .rla => [0x17]
  | .rra => [0x1F]
  | .jp_a16 a => [0xC3, lo8 a, hi8 a]
  | .jp_NZ_a16 a => [0xC2, lo8 a, hi8 a]
  | .jp_Z_a16 a => [0xCA, lo8 a, hi8 a]
  | .jp_NC_a16 a => [0xD2, lo8 a, hi8 a]
  | .jp_C_a16 a => [0xDA, lo8 a, hi8 a]
  | .jp_HL => [0xE9]
  | .jr_e8 e => [0x18, e]
  | .jr_NZ_e8 e => [0x20, e]
  | .jr_Z_e8 e => [0x28, e]
  | .jr_NC_e8 e => [0x30, e]
  | .jr_C_e8 e => [0x38, e]
  | .call_a16 a => [0xCD, lo8 a, hi8 a]
  | .call_NZ_a16 a => [0xC4, lo8 a, hi8 a]
  | .call_Z_a16 a => [0xCC, lo8 a, hi8 a]
  | .call_NC_a16 a => [0xD4, lo8 a, hi8 a]
  | .call_C_a16 a => [0xDC, lo8 a, hi8 a]
  | .ret => [0xC9]
  | .ret_NZ => [0xC0]
  | .ret_Z => [0xC8]
  | .ret_NC => [0xD0]
  | .ret_C => [0xD8]
  | .reti => [0xD9]
  | .rst_00 => [0xC7]
  | .rst_08 => [0xCF]
  | .rst_10 => [0xD7]
  | .rst_18 => [0xDF]
  | .rst_20 => [0xE7]
  | .rst_28 => [0xEF]
  | .rst_30 => [0xF7]
  | .rst_38 => [0xFF]
  | .invalid op => [op]
  | .nop => [0x00]
  | .halt => [0x76]
  | .stop => [0x10, 0x00]
  | .di => [0xF3]
  | .ei => [0xFB]
  | .prefixCb => [0xCB]
  | .rlc_B => [0xCB, 0x00]
  | .rlc_C => [0xCB, 0x01]
  | .rlc_D => [0xCB, 0x02]
  | .rlc_E => [0xCB, 0x03]
  | .rlc_H => [0xCB, 0x04]
  | .rlc_L => [0xCB, 0x05]
  | .rlc_A => [0xCB, 0x07]
  | .rlc_atHL => [0xCB, 0x06]
  | .rrc_B => [0xCB, 0x08]
  | .rrc_C => [0xCB, 0x09]
  | .rrc_D => [0xCB, 0x0A]
  | .rrc_E => [0xCB, 0x0B]
  | .rrc_H => [0xCB, 0x0C]
  | .rrc_L => [0xCB, 0x0D]
  | .rrc_A => [0xCB, 0x0F]
  | .rrc_atHL => [0xCB, 0x0E]
  | .rl_B => [0xCB, 0x10]
  | .rl_C => [0xCB, 0x11]
  | .rl_D => [0xCB, 0x12]
  | .rl_E => [0xCB, 0x13]
  | .rl_H => [0xCB, 0x14]
  | .rl_L => [0xCB, 0x15]
  | .rl_A => [0xCB, 0x17]
  | .rl_atHL => [0xCB, 0x16]
  | .rr_B => [0xCB, 0x18]
  | .rr_C => [0xCB, 0x19]
  | .rr_D => [0xCB, 0x1A]
  | .rr_E => [0xCB, 0x1B]
  | .rr_H => [0xCB, 0x1C]
  | .rr_L => [0xCB, 0x1D]
  | .rr_A => [0xCB, 0x1F]
  | .rr_atHL => [0xCB, 0x1E]
  | .sla_B => [0xCB, 0x20]
  | .sla_C => [0xCB, 0x21]
  | .sla_D => [0xCB, 0x22]
  | .sla_E => [0xCB, 0x23]
  | .sla_H => [0xCB, 0x24]
  | .sla_L => [0xCB, 0x25]
  | .sla_A => [0xCB, 0x27]
  | .sla_atHL => [0xCB, 0x26]
  | .sra_B => [0xCB, 0x28]
  | .sra_C => [0xCB, 0x29]
  | .sra_D => [0xCB, 0x2A]
  | .sra_E => [0xCB, 0x2B]
  | .sra_H => [0xCB, 0x2C]
  | .sra_L => [0xCB, 0x2D]
  | .sra_A => [0xCB, 0x2F]
  | .sra_atHL => [0xCB, 0x2E]
  | .swap_B => [0xCB, 0x30]
  | .swap_C => [0xCB, 0x31]
  | .swap_D => [0xCB, 0x32]
  | .swap_E => [0xCB, 0x33]
  | .swap_H => [0xCB, 0x34]
  | .swap_L => [0xCB, 0x35]
  | .swap_A => [0xCB, 0x37]
  | .swap_atHL => [0xCB, 0x36]
  | .srl_B => [0xCB, 0x38]
  | .srl_C => [0xCB, 0x39]
  | .srl_D => [0xCB, 0x3A]
  | .srl_E => [0xCB, 0x3B]
  | .srl_H => [0xCB, 0x3C]
  | .srl_L => [0xCB, 0x3D]
  | .srl_A => [0xCB, 0x3F]
  | .srl_atHL => [0xCB, 0x3E]
  | .bit_0_B => [0xCB, 0x40]
  | .bit_0_C => [0xCB, 0x41]
  | .bit_0_D => [0xCB, 0x42]
  | .bit_0_E => [0xCB, 0x43]
  | .bit_0_H => [0xCB, 0x44]
  | .bit_0_L => [0xCB, 0x45]
  | .bit_0_A => [0xCB, 0x47]
  | .bit_1_B => [0xCB, 0x48]
  | .bit_1_C => [0xCB, 0x49]
  | .bit_1_D => [0xCB, 0x4A]
  | .bit_1_E => [0xCB, 0x4B]
  | .bit_1_H => [0xCB, 0x4C]
  | .bit_1_L => [0xCB, 0x4D]
  | .bit_1_A => [0xCB, 0x4F]
  | .bit_2_B => [0xCB, 0x50]
  | .bit_2_C => [0xCB, 0x51]
  | .bit_2_D => [0xCB, 0x52]
  | .bit_2_E => [0xCB, 0x53]
  | .bit_2_H => [0xCB, 0x54]
  | .bit_2_L => [0xCB, 0x55]
  | .bit_2_A => [0xCB, 0x57]
  | .bit_3_B => [0xCB, 0x58]
  | .bit_3_C => [0xCB, 0x59]
  | .bit_3_D => [0xCB, 0x5A]
  | .bit_3_E => [0xCB, 0x5B]
  | .bit_3_H => [0xCB, 0x5C]
  | .bit_3_L => [0xCB, 0x5D]
  | .bit_3_A => [0xCB, 0x5F]
  | .bit_4_B => [0xCB, 0x60]
  | .bit_4_C => [0xCB, 0x61]
  | .bit_4_D => [0xCB, 0x62]
  | .bit_4_E => [0xCB, 0x63]
  | .bit_4_H => [0xCB, 0x64]
  | .bit_4_L => [0xCB, 0x65]
  | .bit_4_A => [0xCB, 0x67]
  | .bit_5_B => [0xCB, 0x68]
  | .bit_5_C => [0xCB, 0x69]
  | .bit_5_D => [0xCB, 0x6A]
  | .bit_5_E => [0xCB, 0x6B]
  | .bit_5_H => [0xCB, 0x6C]
  | .bit_5_L => [0xCB, 0x6D]
  | .bit_5_A => [0xCB, 0x6F]
  | .bit_6_B => [0xCB, 0x70]
  | .bit_6_C => [0xCB, 0x71]
  | .bit_6_D => [0xCB, 0x72]
  | .bit_6_E => [0xCB, 0x73]
  | .bit_6_H => [0xCB, 0x74]
  | .bit_6_L => [0xCB, 0x75]
  | .bit_6_A => [0xCB, 0x77]
  | .bit_7_B => [0xCB, 0x78]
  | .bit_7_C => [0xCB, 0x79]
  | .bit_7_D => [0xCB, 0x7A]
  | .bit_7_E => [0xCB, 0x7B]
  | .bit_7_H => [0xCB, 0x7C]
  | .bit_7_L => [0xCB, 0x7D]
  | .bit_7_A => [0xCB, 0x7F]
  | .bit_0_atHL => [0xCB, 0x46]
  | .bit_1_atHL => [0xCB, 0x4E]
  | .bit_2_atHL => [0xCB, 0x56]
  | .bit_3_atHL => [0xCB, 0x5E]
  | .bit_4_atHL => [0xCB, 0x66]
  | .bit_5_atHL => [0xCB, 0x6E]
  | .bit_6_atHL => [0xCB, 0x76]
  | .bit_7_atHL => [0xCB, 0x7E]
  | .res_0_B => [0xCB, 0x80]
  | .res_0_C => [0xCB, 0x81]
  | .res_0_D => [0xCB, 0x82]
  | .res_0_E => [0xCB, 0x83]
  | .res_0_H => [0xCB, 0x84]
  | .res_0_L => [0xCB, 0x85]
  | .res_0_A => [0xCB, 0x87]
  | .res_1_B => [0xCB, 0x88]
  | .res_1_C => [0xCB, 0x89]
  | .res_1_D => [0xCB, 0x8A]
  | .res_1_E => [0xCB, 0x8B]
  | .res_1_H => [0xCB, 0x8C]
  | .res_1_L => [0xCB, 0x8D]
  | .res_1_A => [0xCB, 0x8F]
  | .res_2_B => [0xCB, 0x90]
  | .res_2_C => [0xCB, 0x91]
  | .res_2_D => [0xCB, 0x92]
  | .res_2_E => [0xCB, 0x93]
  | .res_2_H => [0xCB, 0x94]
  | .res_2_L => [0xCB, 0x95]
  | .res_2_A => [0xCB, 0x97]
  | .res_3_B => [0xCB, 0x98]
  | .res_3_C => [0xCB, 0x99]
  | .res_3_D => [0xCB, 0x9A]
  | .res_3_E => [0xCB, 0x9B]
  | .res_3_H => [0xCB, 0x9C]
  | .res_3_L => [0xCB, 0x9D]
  | .res_3_A => [0xCB, 0x9F]
  | .res_4_B => [0xCB, 0xA0]
  | .res_4_C => [0xCB, 0xA1]
  | .res_4_D => [0xCB, 0xA2]
  | .res_4_E => [0xCB, 0xA3]
  | .res_4_H => [0xCB, 0xA4]
  | .res_4_L => [0xCB, 0xA5]
  | .res_4_A => [0xCB, 0xA7]
  | .res_5_B => [0xCB, 0xA8]
  | .res_5_C => [0xCB, 0xA9]
  | .res_5_D => [0xCB, 0xAA]
  | .res_5_E => [0xCB, 0xAB]
  | .res_5_H => [0xCB, 0xAC]
  | .res_5_L => [0xCB, 0xAD]
  | .res_5_A => [0xCB, 0xAF]
  | .res_6_B => [0xCB, 0xB0]
  | .res_6_C => [0xCB, 0xB1]
  | .res_6_D => [0xCB, 0xB2]
  | .res_6_E => [0xCB, 0xB3]
  | .res_6_H => [0xCB, 0xB4]
  | .res_6_L => [0xCB, 0xB5]
  | .res_6_A => [0xCB, 0xB7]
  | .res_7_B => [0xCB, 0xB8]
  | .res_7_C => [0xCB, 0xB9]
  | .res_7_D => [0xCB, 0xBA]
  | .res_7_E => [0xCB, 0xBB]
  | .res_7_H => [0xCB, 0xBC]
  | .res_7_L => [0xCB, 0xBD]
  | .res_7_A => [0xCB, 0xBF]
  | .res_0_atHL => [0xCB, 0x86]
  | .res_1_atHL => [0xCB, 0x8E]
  | .res_2_atHL => [0xCB, 0x96]
  | .res_3_atHL => [0xCB, 0x9E]
  | .res_4_atHL => [0xCB, 0xA6]
  | .res_5_atHL => [0xCB, 0xAE]
  | .res_6_atHL => [0xCB, 0xB6]
  | .res_7_atHL => [0xCB, 0xBE]
  | .set_0_B => [0xCB, 0xC0]
  | .set_0_C => [0xCB, 0xC1]
  | .set_0_D => [0xCB, 0xC2]
  | .set_0_E => [0xCB, 0xC3]
  | .set_0_H => [0xCB, 0xC4]
  | .set_0_L => [0xCB, 0xC5]
  | .set_0_A => [0xCB, 0xC7]
  | .set_1_B => [0xCB, 0xC8]
  | .set_1_C => [0xCB, 0xC9]
  | .set_1_D => [0xCB, 0xCA]
  | .set_1_E => [0xCB, 0xCB]
  | .set_1_H => [0xCB, 0xCC]
  | .set_1_L => [0xCB, 0xCD]
  | .set_1_A => [0xCB, 0xCF]
  | .set_2_B => [0xCB, 0xD0]
  | .set_2_C => [0xCB, 0xD1]
  | .set_2_D => [0xCB, 0xD2]
  | .set_2_E => [0xCB, 0xD3]
  | .set_2_H => [0xCB, 0xD4]
  | .set_2_L => [0xCB, 0xD5]
  | .set_2_A => [0xCB, 0xD7]
  | .set_3_B => [0xCB, 0xD8]
  | .set_3_C => [0xCB, 0xD9]
  | .set_3_D => [0xCB, 0xDA]
  | .set_3_E => [0xCB, 0xDB]
  | .set_3_H => [0xCB, 0xDC]
  | .set_3_L => [0xCB, 0xDD]
  | .set_3_A => [0xCB, 0xDF]
  | .set_4_B => [0xCB, 0xE0]
  | .set_4_C => [0xCB, 0xE1]
  | .set_4_D => [0xCB, 0xE2]
  | .set_4_E => [0xCB, 0xE3]
  | .set_4_H => [0xCB, 0xE4]
  | .set_4_L => [0xCB, 0xE5]
  | .set_4_A => [0xCB, 0xE7]
  | .set_5_B => [0xCB, 0xE8]
  | .set_5_C => [0xCB, 0xE9]
  | .set_5_D => [0xCB, 0xEA]
  | .set_5_E => [0xCB, 0xEB]
  | .set_5_H => [0xCB, 0xEC]
  | .set_5_L => [0xCB, 0xED]
  | .set_5_A => [0xCB, 0xEF]
  | .set_6_B => [0xCB, 0xF0]
  | .set_6_C => [0xCB, 0xF1]
  | .set_6_D => [0xCB, 0xF2]
  | .set_6_E => [0xCB, 0xF3]
  | .set_6_H => [0xCB, 0xF4]
  | .set_6_L => [0xCB, 0xF5]
  | .set_6_A => [0xCB, 0xF7]
  | .set_7_B => [0xCB, 0xF8]
  | .set_7_C => [0xCB, 0xF9]
  | .set_7_D => [0xCB, 0xFA]
  | .set_7_E => [0xCB, 0xFB]
  | .set_7_H => [0xCB, 0xFC]
  | .set_7_L => [0xCB, 0xFD]
  | .set_7_A => [0xCB, 0xFF]
  | .set_0_atHL => [0xCB, 0xC6]
  | .set_1_atHL => [0xCB, 0xCE]
  | .set_2_atHL => [0xCB, 0xD6]
  | .set_3_atHL => [0xCB, 0xDE]
  | .set_4_atHL => [0xCB, 0xE6]
  | .set_5_atHL => [0xCB, 0xEE]
  | .set_6_atHL => [0xCB, 0xF6]
  | .set_7_atHL => [0xCB, 0xFE]

/-! ### The opcode table's words -/

/-- The bytes of an instruction whose word is `w`, numbered as opcode_table.json numbers it. A row of 8 bits is its
opcode byte, followed by operand bytes of zeros; the row of the lone escape byte has no operand bytes. A row of
16 bits is written 0xCBxx: the escape byte stands in bits 15..8 and is the first byte. Any other word has its first
byte in bits 7..0. Log entry 7. -/
def tableBytes (nbits w : Nat) : List Byte :=
  if nbits ≤ 8 then
    if w % 256 = 0xCB then [0xCB] else [BitVec.ofNat 8 w, 0, 0]
  else if nbits ≤ 16 ∧ w / 256 % 256 = 0xCB then [0xCB, BitVec.ofNat 8 w, 0]
  else [BitVec.ofNat 8 w, BitVec.ofNat 8 (w / 256), BitVec.ofNat 8 (w / 65536)]

/-- The instruction that the decoder reads from a word of opcode_table.json. -/
def decodeTableWord (nbits w : Nat) : Option Instr :=
  (decode (tableBytes nbits w)).toOption

end Sys2Proof
end

