-- ==== Sys2Proof/Machine/Alu8.lean ====
section
/-! DEFINITION. Sys2Proof/Machine/Alu8.lean: 8-bit arithmetic and logic (41_alu8.md R113 to R153). -/

namespace Sys2Proof.Machine

/-! ### Shared forms -/

/-- An ALU operation on A and the byte `b` (R113). -/
def aluWith (op : AluOp) (b : Byte) (n : Nat) (s : State) : Result :=
  let r := alu op s.cpu.flags s.cpu.a b
  done n ((s.setReg .a r.value).setFlags r.flags)

/-- The register form (R113). -/
def aluReg (op : AluOp) (r : Reg) (s : State) : Result :=
  aluWith op (s.reg r) 4 s

/-- The form on the byte at HL (R113). -/
def aluMem (op : AluOp) (s : State) : Result :=
  aluWith op (s.readData s.hl) 8 s

/-- The immediate form (R113). -/
def aluImm (op : AluOp) (n : Byte) (s : State) : Result :=
  aluWith op n 8 s

/-- Replaces a register's byte and the flags. -/
def updateReg (r : Reg) (f : Byte → ByteResult) (n : Nat) (s : State) : Result :=
  let x := f (s.reg r)
  done n ((s.setReg r x.value).setFlags x.flags)

/-- Replaces the byte at HL and the flags: one read, then one write (20_memory.md R64). -/
def updateMem (f : Byte → ByteResult) (n : Nat) (s : State) : Result :=
  let x := f (s.readData s.hl)
  done n ((busWrite s s.hl x.value).setFlags x.flags)

/-- `INC r` (R146). -/
def incReg (r : Reg) (s : State) : Result :=
  updateReg r (incByte s.cpu.flags) 4 s

/-- `DEC r` (R148). -/
def decReg (r : Reg) (s : State) : Result :=
  updateReg r (decByte s.cpu.flags) 4 s

/-! ### The instructions -/

/-- `ADD A,B` (80), R122. -/
def execAdd_A_B (s : State) : Result :=
  aluReg .add .b s

/-- `ADD A,C` (81), R122. -/
def execAdd_A_C (s : State) : Result :=
  aluReg .add .c s

/-- `ADD A,D` (82), R122. -/
def execAdd_A_D (s : State) : Result :=
  aluReg .add .d s

/-- `ADD A,E` (83), R122. -/
def execAdd_A_E (s : State) : Result :=
  aluReg .add .e s

/-- `ADD A,H` (84), R122. -/
def execAdd_A_H (s : State) : Result :=
  aluReg .add .h s

/-- `ADD A,L` (85), R122. -/
def execAdd_A_L (s : State) : Result :=
  aluReg .add .l s

/-- `ADD A,A` (87), R122. -/
def execAdd_A_A (s : State) : Result :=
  aluReg .add .a s

/-- `ADD A,(HL)` (86), R123. -/
def execAdd_A_atHL (s : State) : Result :=
  aluMem .add s

/-- `ADD A,d8` (C6), R124. -/
def execAdd_A_d8 (n : Byte) (s : State) : Result :=
  aluImm .add n s

/-- `ADC A,B` (88), R125. -/
def execAdc_A_B (s : State) : Result :=
  aluReg .adc .b s

/-- `ADC A,C` (89), R125. -/
def execAdc_A_C (s : State) : Result :=
  aluReg .adc .c s

/-- `ADC A,D` (8A), R125. -/
def execAdc_A_D (s : State) : Result :=
  aluReg .adc .d s

/-- `ADC A,E` (8B), R125. -/
def execAdc_A_E (s : State) : Result :=
  aluReg .adc .e s

/-- `ADC A,H` (8C), R125. -/
def execAdc_A_H (s : State) : Result :=
  aluReg .adc .h s

/-- `ADC A,L` (8D), R125. -/
def execAdc_A_L (s : State) : Result :=
  aluReg .adc .l s

/-- `ADC A,A` (8F), R125. -/
def execAdc_A_A (s : State) : Result :=
  aluReg .adc .a s

/-- `ADC A,(HL)` (8E), R126. -/
def execAdc_A_atHL (s : State) : Result :=
  aluMem .adc s

/-- `ADC A,d8` (CE), R127. -/
def execAdc_A_d8 (n : Byte) (s : State) : Result :=
  aluImm .adc n s

/-- `SUB A,B` (90), R128. -/
def execSub_A_B (s : State) : Result :=
  aluReg .sub .b s

/-- `SUB A,C` (91), R128. -/
def execSub_A_C (s : State) : Result :=
  aluReg .sub .c s

/-- `SUB A,D` (92), R128. -/
def execSub_A_D (s : State) : Result :=
  aluReg .sub .d s

/-- `SUB A,E` (93), R128. -/
def execSub_A_E (s : State) : Result :=
  aluReg .sub .e s

/-- `SUB A,H` (94), R128. -/
def execSub_A_H (s : State) : Result :=
  aluReg .sub .h s

/-- `SUB A,L` (95), R128. -/
def execSub_A_L (s : State) : Result :=
  aluReg .sub .l s

/-- `SUB A,A` (97), R128. -/
def execSub_A_A (s : State) : Result :=
  aluReg .sub .a s

/-- `SUB A,(HL)` (96), R129. -/
def execSub_A_atHL (s : State) : Result :=
  aluMem .sub s

/-- `SUB A,d8` (D6), R130. -/
def execSub_A_d8 (n : Byte) (s : State) : Result :=
  aluImm .sub n s

/-- `SBC A,B` (98), R131. -/
def execSbc_A_B (s : State) : Result :=
  aluReg .sbc .b s

/-- `SBC A,C` (99), R131. -/
def execSbc_A_C (s : State) : Result :=
  aluReg .sbc .c s

/-- `SBC A,D` (9A), R131. -/
def execSbc_A_D (s : State) : Result :=
  aluReg .sbc .d s

/-- `SBC A,E` (9B), R131. -/
def execSbc_A_E (s : State) : Result :=
  aluReg .sbc .e s

/-- `SBC A,H` (9C), R131. -/
def execSbc_A_H (s : State) : Result :=
  aluReg .sbc .h s

/-- `SBC A,L` (9D), R131. -/
def execSbc_A_L (s : State) : Result :=
  aluReg .sbc .l s

/-- `SBC A,A` (9F), R131. -/
def execSbc_A_A (s : State) : Result :=
  aluReg .sbc .a s

/-- `SBC A,(HL)` (9E), R132. -/
def execSbc_A_atHL (s : State) : Result :=
  aluMem .sbc s

/-- `SBC A,d8` (DE), R133. -/
def execSbc_A_d8 (n : Byte) (s : State) : Result :=
  aluImm .sbc n s

/-- `AND A,B` (A0), R134. -/
def execAnd_A_B (s : State) : Result :=
  aluReg .and .b s

/-- `AND A,C` (A1), R134. -/
def execAnd_A_C (s : State) : Result :=
  aluReg .and .c s

/-- `AND A,D` (A2), R134. -/
def execAnd_A_D (s : State) : Result :=
  aluReg .and .d s

/-- `AND A,E` (A3), R134. -/
def execAnd_A_E (s : State) : Result :=
  aluReg .and .e s

/-- `AND A,H` (A4), R134. -/
def execAnd_A_H (s : State) : Result :=
  aluReg .and .h s

/-- `AND A,L` (A5), R134. -/
def execAnd_A_L (s : State) : Result :=
  aluReg .and .l s

/-- `AND A,A` (A7), R134. -/
def execAnd_A_A (s : State) : Result :=
  aluReg .and .a s

/-- `AND A,(HL)` (A6), R135. -/
def execAnd_A_atHL (s : State) : Result :=
  aluMem .and s

/-- `AND A,d8` (E6), R136. -/
def execAnd_A_d8 (n : Byte) (s : State) : Result :=
  aluImm .and n s

/-- `XOR A,B` (A8), R137. -/
def execXor_A_B (s : State) : Result :=
  aluReg .xor .b s

/-- `XOR A,C` (A9), R137. -/
def execXor_A_C (s : State) : Result :=
  aluReg .xor .c s

/-- `XOR A,D` (AA), R137. -/
def execXor_A_D (s : State) : Result :=
  aluReg .xor .d s

/-- `XOR A,E` (AB), R137. -/
def execXor_A_E (s : State) : Result :=
  aluReg .xor .e s

/-- `XOR A,H` (AC), R137. -/
def execXor_A_H (s : State) : Result :=
  aluReg .xor .h s

/-- `XOR A,L` (AD), R137. -/
def execXor_A_L (s : State) : Result :=
  aluReg .xor .l s

/-- `XOR A,A` (AF), R137. -/
def execXor_A_A (s : State) : Result :=
  aluReg .xor .a s

/-- `XOR A,(HL)` (AE), R138. -/
def execXor_A_atHL (s : State) : Result :=
  aluMem .xor s

/-- `XOR A,d8` (EE), R139. -/
def execXor_A_d8 (n : Byte) (s : State) : Result :=
  aluImm .xor n s

/-- `OR A,B` (B0), R140. -/
def execOr_A_B (s : State) : Result :=
  aluReg .or .b s

/-- `OR A,C` (B1), R140. -/
def execOr_A_C (s : State) : Result :=
  aluReg .or .c s

/-- `OR A,D` (B2), R140. -/
def execOr_A_D (s : State) : Result :=
  aluReg .or .d s

/-- `OR A,E` (B3), R140. -/
def execOr_A_E (s : State) : Result :=
  aluReg .or .e s

/-- `OR A,H` (B4), R140. -/
def execOr_A_H (s : State) : Result :=
  aluReg .or .h s

/-- `OR A,L` (B5), R140. -/
def execOr_A_L (s : State) : Result :=
  aluReg .or .l s

/-- `OR A,A` (B7), R140. -/
def execOr_A_A (s : State) : Result :=
  aluReg .or .a s

/-- `OR A,(HL)` (B6), R141. -/
def execOr_A_atHL (s : State) : Result :=
  aluMem .or s

/-- `OR A,d8` (F6), R142. -/
def execOr_A_d8 (n : Byte) (s : State) : Result :=
  aluImm .or n s

/-- `CP A,B` (B8), R143. -/
def execCp_A_B (s : State) : Result :=
  aluReg .cp .b s

/-- `CP A,C` (B9), R143. -/
def execCp_A_C (s : State) : Result :=
  aluReg .cp .c s

/-- `CP A,D` (BA), R143. -/
def execCp_A_D (s : State) : Result :=
  aluReg .cp .d s

/-- `CP A,E` (BB), R143. -/
def execCp_A_E (s : State) : Result :=
  aluReg .cp .e s

/-- `CP A,H` (BC), R143. -/
def execCp_A_H (s : State) : Result :=
  aluReg .cp .h s

/-- `CP A,L` (BD), R143. -/
def execCp_A_L (s : State) : Result :=
  aluReg .cp .l s

/-- `CP A,A` (BF), R143. -/
def execCp_A_A (s : State) : Result :=
  aluReg .cp .a s

/-- `CP A,(HL)` (BE), R144. -/
def execCp_A_atHL (s : State) : Result :=
  aluMem .cp s

/-- `CP A,d8` (FE), R145. -/
def execCp_A_d8 (n : Byte) (s : State) : Result :=
  aluImm .cp n s

/-- `INC B` (04), R146. -/
def execInc_B (s : State) : Result :=
  incReg .b s

/-- `INC C` (0C), R146. -/
def execInc_C (s : State) : Result :=
  incReg .c s

/-- `INC D` (14), R146. -/
def execInc_D (s : State) : Result :=
  incReg .d s

/-- `INC E` (1C), R146. -/
def execInc_E (s : State) : Result :=
  incReg .e s

/-- `INC H` (24), R146. -/
def execInc_H (s : State) : Result :=
  incReg .h s

/-- `INC L` (2C), R146. -/
def execInc_L (s : State) : Result :=
  incReg .l s

/-- `INC A` (3C), R146. -/
def execInc_A (s : State) : Result :=
  incReg .a s

/-- `INC (HL)` (34), R147. -/
def execInc_atHL (s : State) : Result :=
  updateMem (incByte s.cpu.flags) 12 s

/-- `DEC B` (05), R148. -/
def execDec_B (s : State) : Result :=
  decReg .b s

/-- `DEC C` (0D), R148. -/
def execDec_C (s : State) : Result :=
  decReg .c s

/-- `DEC D` (15), R148. -/
def execDec_D (s : State) : Result :=
  decReg .d s

/-- `DEC E` (1D), R148. -/
def execDec_E (s : State) : Result :=
  decReg .e s

/-- `DEC H` (25), R148. -/
def execDec_H (s : State) : Result :=
  decReg .h s

/-- `DEC L` (2D), R148. -/
def execDec_L (s : State) : Result :=
  decReg .l s

/-- `DEC A` (3D), R148. -/
def execDec_A (s : State) : Result :=
  decReg .a s

/-- `DEC (HL)` (35), R149. -/
def execDec_atHL (s : State) : Result :=
  updateMem (decByte s.cpu.flags) 12 s

/-- `DAA` (27), R150. -/
def execDaa (s : State) : Result :=
  updateReg .a (daa s.cpu.flags) 4 s

/-- `CPL` (2F), R151. -/
def execCpl (s : State) : Result :=
  done 4 ((s.setReg .a (s.cpu.a ^^^ 0xFF)).setFlags { s.cpu.flags with n := true, h := true })

/-- `SCF` (37), R152. -/
def execScf (s : State) : Result :=
  done 4 (s.setFlags { s.cpu.flags with n := false, h := false, c := true })

/-- `CCF` (3F), R153. -/
def execCcf (s : State) : Result :=
  done 4 (s.setFlags { s.cpu.flags with n := false, h := false, c := !s.cpu.flags.c })

end Sys2Proof.Machine
end

