-- ==== Sys2Proof/Machine/BitOps.lean ====
section
/-! DEFINITION. Sys2Proof/Machine/BitOps.lean: bit test, reset and set (43_rotate_shift_bit.md R180 to R185). -/

namespace Sys2Proof.Machine

/-! ### Shared forms -/

/-- `BIT b,r` (R180). -/
def bitReg (y : Oct) (r : Reg) (s : State) : Result :=
  done 8 (s.setFlags (bitFlags y s.cpu.flags (s.reg r)))

/-- `BIT b,(HL)` (R181): memory is not written. -/
def bitMem (y : Oct) (s : State) : Result :=
  done 12 (s.setFlags (bitFlags y s.cpu.flags (s.readData s.hl)))

/-- `RES b,r` (R182). -/
def resBitReg (y : Oct) (r : Reg) (s : State) : Result :=
  done 8 (s.setReg r (resetBit y (s.reg r)))

/-- `RES b,(HL)` (R183): the write always happens. -/
def resBitMem (y : Oct) (s : State) : Result :=
  done 16 (busWrite s s.hl (resetBit y (s.readData s.hl)))

/-- `SET b,r` (R184). -/
def setBitReg (y : Oct) (r : Reg) (s : State) : Result :=
  done 8 (s.setReg r (setBit y (s.reg r)))

/-- `SET b,(HL)` (R185): the write always happens. -/
def setBitMem (y : Oct) (s : State) : Result :=
  done 16 (busWrite s s.hl (setBit y (s.readData s.hl)))

/-! ### The instructions -/

/-- `BIT 0,B` (CB 40), R180. -/
def execBit_0_B (s : State) : Result :=
  bitReg .i0 .b s

/-- `BIT 0,C` (CB 41), R180. -/
def execBit_0_C (s : State) : Result :=
  bitReg .i0 .c s

/-- `BIT 0,D` (CB 42), R180. -/
def execBit_0_D (s : State) : Result :=
  bitReg .i0 .d s

/-- `BIT 0,E` (CB 43), R180. -/
def execBit_0_E (s : State) : Result :=
  bitReg .i0 .e s

/-- `BIT 0,H` (CB 44), R180. -/
def execBit_0_H (s : State) : Result :=
  bitReg .i0 .h s

/-- `BIT 0,L` (CB 45), R180. -/
def execBit_0_L (s : State) : Result :=
  bitReg .i0 .l s

/-- `BIT 0,A` (CB 47), R180. -/
def execBit_0_A (s : State) : Result :=
  bitReg .i0 .a s

/-- `BIT 1,B` (CB 48), R180. -/
def execBit_1_B (s : State) : Result :=
  bitReg .i1 .b s

/-- `BIT 1,C` (CB 49), R180. -/
def execBit_1_C (s : State) : Result :=
  bitReg .i1 .c s

/-- `BIT 1,D` (CB 4A), R180. -/
def execBit_1_D (s : State) : Result :=
  bitReg .i1 .d s

/-- `BIT 1,E` (CB 4B), R180. -/
def execBit_1_E (s : State) : Result :=
  bitReg .i1 .e s

/-- `BIT 1,H` (CB 4C), R180. -/
def execBit_1_H (s : State) : Result :=
  bitReg .i1 .h s

/-- `BIT 1,L` (CB 4D), R180. -/
def execBit_1_L (s : State) : Result :=
  bitReg .i1 .l s

/-- `BIT 1,A` (CB 4F), R180. -/
def execBit_1_A (s : State) : Result :=
  bitReg .i1 .a s

/-- `BIT 2,B` (CB 50), R180. -/
def execBit_2_B (s : State) : Result :=
  bitReg .i2 .b s

/-- `BIT 2,C` (CB 51), R180. -/
def execBit_2_C (s : State) : Result :=
  bitReg .i2 .c s

/-- `BIT 2,D` (CB 52), R180. -/
def execBit_2_D (s : State) : Result :=
  bitReg .i2 .d s

/-- `BIT 2,E` (CB 53), R180. -/
def execBit_2_E (s : State) : Result :=
  bitReg .i2 .e s

/-- `BIT 2,H` (CB 54), R180. -/
def execBit_2_H (s : State) : Result :=
  bitReg .i2 .h s

/-- `BIT 2,L` (CB 55), R180. -/
def execBit_2_L (s : State) : Result :=
  bitReg .i2 .l s

/-- `BIT 2,A` (CB 57), R180. -/
def execBit_2_A (s : State) : Result :=
  bitReg .i2 .a s

/-- `BIT 3,B` (CB 58), R180. -/
def execBit_3_B (s : State) : Result :=
  bitReg .i3 .b s

/-- `BIT 3,C` (CB 59), R180. -/
def execBit_3_C (s : State) : Result :=
  bitReg .i3 .c s

/-- `BIT 3,D` (CB 5A), R180. -/
def execBit_3_D (s : State) : Result :=
  bitReg .i3 .d s

/-- `BIT 3,E` (CB 5B), R180. -/
def execBit_3_E (s : State) : Result :=
  bitReg .i3 .e s

/-- `BIT 3,H` (CB 5C), R180. -/
def execBit_3_H (s : State) : Result :=
  bitReg .i3 .h s

/-- `BIT 3,L` (CB 5D), R180. -/
def execBit_3_L (s : State) : Result :=
  bitReg .i3 .l s

/-- `BIT 3,A` (CB 5F), R180. -/
def execBit_3_A (s : State) : Result :=
  bitReg .i3 .a s

/-- `BIT 4,B` (CB 60), R180. -/
def execBit_4_B (s : State) : Result :=
  bitReg .i4 .b s

/-- `BIT 4,C` (CB 61), R180. -/
def execBit_4_C (s : State) : Result :=
  bitReg .i4 .c s

/-- `BIT 4,D` (CB 62), R180. -/
def execBit_4_D (s : State) : Result :=
  bitReg .i4 .d s

/-- `BIT 4,E` (CB 63), R180. -/
def execBit_4_E (s : State) : Result :=
  bitReg .i4 .e s

/-- `BIT 4,H` (CB 64), R180. -/
def execBit_4_H (s : State) : Result :=
  bitReg .i4 .h s

/-- `BIT 4,L` (CB 65), R180. -/
def execBit_4_L (s : State) : Result :=
  bitReg .i4 .l s

/-- `BIT 4,A` (CB 67), R180. -/
def execBit_4_A (s : State) : Result :=
  bitReg .i4 .a s

/-- `BIT 5,B` (CB 68), R180. -/
def execBit_5_B (s : State) : Result :=
  bitReg .i5 .b s

/-- `BIT 5,C` (CB 69), R180. -/
def execBit_5_C (s : State) : Result :=
  bitReg .i5 .c s

/-- `BIT 5,D` (CB 6A), R180. -/
def execBit_5_D (s : State) : Result :=
  bitReg .i5 .d s

/-- `BIT 5,E` (CB 6B), R180. -/
def execBit_5_E (s : State) : Result :=
  bitReg .i5 .e s

/-- `BIT 5,H` (CB 6C), R180. -/
def execBit_5_H (s : State) : Result :=
  bitReg .i5 .h s

/-- `BIT 5,L` (CB 6D), R180. -/
def execBit_5_L (s : State) : Result :=
  bitReg .i5 .l s

/-- `BIT 5,A` (CB 6F), R180. -/
def execBit_5_A (s : State) : Result :=
  bitReg .i5 .a s

/-- `BIT 6,B` (CB 70), R180. -/
def execBit_6_B (s : State) : Result :=
  bitReg .i6 .b s

/-- `BIT 6,C` (CB 71), R180. -/
def execBit_6_C (s : State) : Result :=
  bitReg .i6 .c s

/-- `BIT 6,D` (CB 72), R180. -/
def execBit_6_D (s : State) : Result :=
  bitReg .i6 .d s

/-- `BIT 6,E` (CB 73), R180. -/
def execBit_6_E (s : State) : Result :=
  bitReg .i6 .e s

/-- `BIT 6,H` (CB 74), R180. -/
def execBit_6_H (s : State) : Result :=
  bitReg .i6 .h s

/-- `BIT 6,L` (CB 75), R180. -/
def execBit_6_L (s : State) : Result :=
  bitReg .i6 .l s

/-- `BIT 6,A` (CB 77), R180. -/
def execBit_6_A (s : State) : Result :=
  bitReg .i6 .a s

/-- `BIT 7,B` (CB 78), R180. -/
def execBit_7_B (s : State) : Result :=
  bitReg .i7 .b s

/-- `BIT 7,C` (CB 79), R180. -/
def execBit_7_C (s : State) : Result :=
  bitReg .i7 .c s

/-- `BIT 7,D` (CB 7A), R180. -/
def execBit_7_D (s : State) : Result :=
  bitReg .i7 .d s

/-- `BIT 7,E` (CB 7B), R180. -/
def execBit_7_E (s : State) : Result :=
  bitReg .i7 .e s

/-- `BIT 7,H` (CB 7C), R180. -/
def execBit_7_H (s : State) : Result :=
  bitReg .i7 .h s

/-- `BIT 7,L` (CB 7D), R180. -/
def execBit_7_L (s : State) : Result :=
  bitReg .i7 .l s

/-- `BIT 7,A` (CB 7F), R180. -/
def execBit_7_A (s : State) : Result :=
  bitReg .i7 .a s

/-- `BIT 0,(HL)` (CB 46), R181. -/
def execBit_0_atHL (s : State) : Result :=
  bitMem .i0 s

/-- `BIT 1,(HL)` (CB 4E), R181. -/
def execBit_1_atHL (s : State) : Result :=
  bitMem .i1 s

/-- `BIT 2,(HL)` (CB 56), R181. -/
def execBit_2_atHL (s : State) : Result :=
  bitMem .i2 s

/-- `BIT 3,(HL)` (CB 5E), R181. -/
def execBit_3_atHL (s : State) : Result :=
  bitMem .i3 s

/-- `BIT 4,(HL)` (CB 66), R181. -/
def execBit_4_atHL (s : State) : Result :=
  bitMem .i4 s

/-- `BIT 5,(HL)` (CB 6E), R181. -/
def execBit_5_atHL (s : State) : Result :=
  bitMem .i5 s

/-- `BIT 6,(HL)` (CB 76), R181. -/
def execBit_6_atHL (s : State) : Result :=
  bitMem .i6 s

/-- `BIT 7,(HL)` (CB 7E), R181. -/
def execBit_7_atHL (s : State) : Result :=
  bitMem .i7 s

/-- `RES 0,B` (CB 80), R182. -/
def execRes_0_B (s : State) : Result :=
  resBitReg .i0 .b s

/-- `RES 0,C` (CB 81), R182. -/
def execRes_0_C (s : State) : Result :=
  resBitReg .i0 .c s

/-- `RES 0,D` (CB 82), R182. -/
def execRes_0_D (s : State) : Result :=
  resBitReg .i0 .d s

/-- `RES 0,E` (CB 83), R182. -/
def execRes_0_E (s : State) : Result :=
  resBitReg .i0 .e s

/-- `RES 0,H` (CB 84), R182. -/
def execRes_0_H (s : State) : Result :=
  resBitReg .i0 .h s

/-- `RES 0,L` (CB 85), R182. -/
def execRes_0_L (s : State) : Result :=
  resBitReg .i0 .l s

/-- `RES 0,A` (CB 87), R182. -/
def execRes_0_A (s : State) : Result :=
  resBitReg .i0 .a s

/-- `RES 1,B` (CB 88), R182. -/
def execRes_1_B (s : State) : Result :=
  resBitReg .i1 .b s

/-- `RES 1,C` (CB 89), R182. -/
def execRes_1_C (s : State) : Result :=
  resBitReg .i1 .c s

/-- `RES 1,D` (CB 8A), R182. -/
def execRes_1_D (s : State) : Result :=
  resBitReg .i1 .d s

/-- `RES 1,E` (CB 8B), R182. -/
def execRes_1_E (s : State) : Result :=
  resBitReg .i1 .e s

/-- `RES 1,H` (CB 8C), R182. -/
def execRes_1_H (s : State) : Result :=
  resBitReg .i1 .h s

/-- `RES 1,L` (CB 8D), R182. -/
def execRes_1_L (s : State) : Result :=
  resBitReg .i1 .l s

/-- `RES 1,A` (CB 8F), R182. -/
def execRes_1_A (s : State) : Result :=
  resBitReg .i1 .a s

/-- `RES 2,B` (CB 90), R182. -/
def execRes_2_B (s : State) : Result :=
  resBitReg .i2 .b s

/-- `RES 2,C` (CB 91), R182. -/
def execRes_2_C (s : State) : Result :=
  resBitReg .i2 .c s

/-- `RES 2,D` (CB 92), R182. -/
def execRes_2_D (s : State) : Result :=
  resBitReg .i2 .d s

/-- `RES 2,E` (CB 93), R182. -/
def execRes_2_E (s : State) : Result :=
  resBitReg .i2 .e s

/-- `RES 2,H` (CB 94), R182. -/
def execRes_2_H (s : State) : Result :=
  resBitReg .i2 .h s

/-- `RES 2,L` (CB 95), R182. -/
def execRes_2_L (s : State) : Result :=
  resBitReg .i2 .l s

/-- `RES 2,A` (CB 97), R182. -/
def execRes_2_A (s : State) : Result :=
  resBitReg .i2 .a s

/-- `RES 3,B` (CB 98), R182. -/
def execRes_3_B (s : State) : Result :=
  resBitReg .i3 .b s

/-- `RES 3,C` (CB 99), R182. -/
def execRes_3_C (s : State) : Result :=
  resBitReg .i3 .c s

/-- `RES 3,D` (CB 9A), R182. -/
def execRes_3_D (s : State) : Result :=
  resBitReg .i3 .d s

/-- `RES 3,E` (CB 9B), R182. -/
def execRes_3_E (s : State) : Result :=
  resBitReg .i3 .e s

/-- `RES 3,H` (CB 9C), R182. -/
def execRes_3_H (s : State) : Result :=
  resBitReg .i3 .h s

/-- `RES 3,L` (CB 9D), R182. -/
def execRes_3_L (s : State) : Result :=
  resBitReg .i3 .l s

/-- `RES 3,A` (CB 9F), R182. -/
def execRes_3_A (s : State) : Result :=
  resBitReg .i3 .a s

/-- `RES 4,B` (CB A0), R182. -/
def execRes_4_B (s : State) : Result :=
  resBitReg .i4 .b s

/-- `RES 4,C` (CB A1), R182. -/
def execRes_4_C (s : State) : Result :=
  resBitReg .i4 .c s

/-- `RES 4,D` (CB A2), R182. -/
def execRes_4_D (s : State) : Result :=
  resBitReg .i4 .d s

/-- `RES 4,E` (CB A3), R182. -/
def execRes_4_E (s : State) : Result :=
  resBitReg .i4 .e s

/-- `RES 4,H` (CB A4), R182. -/
def execRes_4_H (s : State) : Result :=
  resBitReg .i4 .h s

/-- `RES 4,L` (CB A5), R182. -/
def execRes_4_L (s : State) : Result :=
  resBitReg .i4 .l s

/-- `RES 4,A` (CB A7), R182. -/
def execRes_4_A (s : State) : Result :=
  resBitReg .i4 .a s

/-- `RES 5,B` (CB A8), R182. -/
def execRes_5_B (s : State) : Result :=
  resBitReg .i5 .b s

/-- `RES 5,C` (CB A9), R182. -/
def execRes_5_C (s : State) : Result :=
  resBitReg .i5 .c s

/-- `RES 5,D` (CB AA), R182. -/
def execRes_5_D (s : State) : Result :=
  resBitReg .i5 .d s

/-- `RES 5,E` (CB AB), R182. -/
def execRes_5_E (s : State) : Result :=
  resBitReg .i5 .e s

/-- `RES 5,H` (CB AC), R182. -/
def execRes_5_H (s : State) : Result :=
  resBitReg .i5 .h s

/-- `RES 5,L` (CB AD), R182. -/
def execRes_5_L (s : State) : Result :=
  resBitReg .i5 .l s

/-- `RES 5,A` (CB AF), R182. -/
def execRes_5_A (s : State) : Result :=
  resBitReg .i5 .a s

/-- `RES 6,B` (CB B0), R182. -/
def execRes_6_B (s : State) : Result :=
  resBitReg .i6 .b s

/-- `RES 6,C` (CB B1), R182. -/
def execRes_6_C (s : State) : Result :=
  resBitReg .i6 .c s

/-- `RES 6,D` (CB B2), R182. -/
def execRes_6_D (s : State) : Result :=
  resBitReg .i6 .d s

/-- `RES 6,E` (CB B3), R182. -/
def execRes_6_E (s : State) : Result :=
  resBitReg .i6 .e s

/-- `RES 6,H` (CB B4), R182. -/
def execRes_6_H (s : State) : Result :=
  resBitReg .i6 .h s

/-- `RES 6,L` (CB B5), R182. -/
def execRes_6_L (s : State) : Result :=
  resBitReg .i6 .l s

/-- `RES 6,A` (CB B7), R182. -/
def execRes_6_A (s : State) : Result :=
  resBitReg .i6 .a s

/-- `RES 7,B` (CB B8), R182. -/
def execRes_7_B (s : State) : Result :=
  resBitReg .i7 .b s

/-- `RES 7,C` (CB B9), R182. -/
def execRes_7_C (s : State) : Result :=
  resBitReg .i7 .c s

/-- `RES 7,D` (CB BA), R182. -/
def execRes_7_D (s : State) : Result :=
  resBitReg .i7 .d s

/-- `RES 7,E` (CB BB), R182. -/
def execRes_7_E (s : State) : Result :=
  resBitReg .i7 .e s

/-- `RES 7,H` (CB BC), R182. -/
def execRes_7_H (s : State) : Result :=
  resBitReg .i7 .h s

/-- `RES 7,L` (CB BD), R182. -/
def execRes_7_L (s : State) : Result :=
  resBitReg .i7 .l s

/-- `RES 7,A` (CB BF), R182. -/
def execRes_7_A (s : State) : Result :=
  resBitReg .i7 .a s

/-- `RES 0,(HL)` (CB 86), R183. -/
def execRes_0_atHL (s : State) : Result :=
  resBitMem .i0 s

/-- `RES 1,(HL)` (CB 8E), R183. -/
def execRes_1_atHL (s : State) : Result :=
  resBitMem .i1 s

/-- `RES 2,(HL)` (CB 96), R183. -/
def execRes_2_atHL (s : State) : Result :=
  resBitMem .i2 s

/-- `RES 3,(HL)` (CB 9E), R183. -/
def execRes_3_atHL (s : State) : Result :=
  resBitMem .i3 s

/-- `RES 4,(HL)` (CB A6), R183. -/
def execRes_4_atHL (s : State) : Result :=
  resBitMem .i4 s

/-- `RES 5,(HL)` (CB AE), R183. -/
def execRes_5_atHL (s : State) : Result :=
  resBitMem .i5 s

/-- `RES 6,(HL)` (CB B6), R183. -/
def execRes_6_atHL (s : State) : Result :=
  resBitMem .i6 s

/-- `RES 7,(HL)` (CB BE), R183. -/
def execRes_7_atHL (s : State) : Result :=
  resBitMem .i7 s

/-- `SET 0,B` (CB C0), R184. -/
def execSet_0_B (s : State) : Result :=
  setBitReg .i0 .b s

/-- `SET 0,C` (CB C1), R184. -/
def execSet_0_C (s : State) : Result :=
  setBitReg .i0 .c s

/-- `SET 0,D` (CB C2), R184. -/
def execSet_0_D (s : State) : Result :=
  setBitReg .i0 .d s

/-- `SET 0,E` (CB C3), R184. -/
def execSet_0_E (s : State) : Result :=
  setBitReg .i0 .e s

/-- `SET 0,H` (CB C4), R184. -/
def execSet_0_H (s : State) : Result :=
  setBitReg .i0 .h s

/-- `SET 0,L` (CB C5), R184. -/
def execSet_0_L (s : State) : Result :=
  setBitReg .i0 .l s

/-- `SET 0,A` (CB C7), R184. -/
def execSet_0_A (s : State) : Result :=
  setBitReg .i0 .a s

/-- `SET 1,B` (CB C8), R184. -/
def execSet_1_B (s : State) : Result :=
  setBitReg .i1 .b s

/-- `SET 1,C` (CB C9), R184. -/
def execSet_1_C (s : State) : Result :=
  setBitReg .i1 .c s

/-- `SET 1,D` (CB CA), R184. -/
def execSet_1_D (s : State) : Result :=
  setBitReg .i1 .d s

/-- `SET 1,E` (CB CB), R184. -/
def execSet_1_E (s : State) : Result :=
  setBitReg .i1 .e s

/-- `SET 1,H` (CB CC), R184. -/
def execSet_1_H (s : State) : Result :=
  setBitReg .i1 .h s

/-- `SET 1,L` (CB CD), R184. -/
def execSet_1_L (s : State) : Result :=
  setBitReg .i1 .l s

/-- `SET 1,A` (CB CF), R184. -/
def execSet_1_A (s : State) : Result :=
  setBitReg .i1 .a s

/-- `SET 2,B` (CB D0), R184. -/
def execSet_2_B (s : State) : Result :=
  setBitReg .i2 .b s

/-- `SET 2,C` (CB D1), R184. -/
def execSet_2_C (s : State) : Result :=
  setBitReg .i2 .c s

/-- `SET 2,D` (CB D2), R184. -/
def execSet_2_D (s : State) : Result :=
  setBitReg .i2 .d s

/-- `SET 2,E` (CB D3), R184. -/
def execSet_2_E (s : State) : Result :=
  setBitReg .i2 .e s

/-- `SET 2,H` (CB D4), R184. -/
def execSet_2_H (s : State) : Result :=
  setBitReg .i2 .h s

/-- `SET 2,L` (CB D5), R184. -/
def execSet_2_L (s : State) : Result :=
  setBitReg .i2 .l s

/-- `SET 2,A` (CB D7), R184. -/
def execSet_2_A (s : State) : Result :=
  setBitReg .i2 .a s

/-- `SET 3,B` (CB D8), R184. -/
def execSet_3_B (s : State) : Result :=
  setBitReg .i3 .b s

/-- `SET 3,C` (CB D9), R184. -/
def execSet_3_C (s : State) : Result :=
  setBitReg .i3 .c s

/-- `SET 3,D` (CB DA), R184. -/
def execSet_3_D (s : State) : Result :=
  setBitReg .i3 .d s

/-- `SET 3,E` (CB DB), R184. -/
def execSet_3_E (s : State) : Result :=
  setBitReg .i3 .e s

/-- `SET 3,H` (CB DC), R184. -/
def execSet_3_H (s : State) : Result :=
  setBitReg .i3 .h s

/-- `SET 3,L` (CB DD), R184. -/
def execSet_3_L (s : State) : Result :=
  setBitReg .i3 .l s

/-- `SET 3,A` (CB DF), R184. -/
def execSet_3_A (s : State) : Result :=
  setBitReg .i3 .a s

/-- `SET 4,B` (CB E0), R184. -/
def execSet_4_B (s : State) : Result :=
  setBitReg .i4 .b s

/-- `SET 4,C` (CB E1), R184. -/
def execSet_4_C (s : State) : Result :=
  setBitReg .i4 .c s

/-- `SET 4,D` (CB E2), R184. -/
def execSet_4_D (s : State) : Result :=
  setBitReg .i4 .d s

/-- `SET 4,E` (CB E3), R184. -/
def execSet_4_E (s : State) : Result :=
  setBitReg .i4 .e s

/-- `SET 4,H` (CB E4), R184. -/
def execSet_4_H (s : State) : Result :=
  setBitReg .i4 .h s

/-- `SET 4,L` (CB E5), R184. -/
def execSet_4_L (s : State) : Result :=
  setBitReg .i4 .l s

/-- `SET 4,A` (CB E7), R184. -/
def execSet_4_A (s : State) : Result :=
  setBitReg .i4 .a s

/-- `SET 5,B` (CB E8), R184. -/
def execSet_5_B (s : State) : Result :=
  setBitReg .i5 .b s

/-- `SET 5,C` (CB E9), R184. -/
def execSet_5_C (s : State) : Result :=
  setBitReg .i5 .c s

/-- `SET 5,D` (CB EA), R184. -/
def execSet_5_D (s : State) : Result :=
  setBitReg .i5 .d s

/-- `SET 5,E` (CB EB), R184. -/
def execSet_5_E (s : State) : Result :=
  setBitReg .i5 .e s

/-- `SET 5,H` (CB EC), R184. -/
def execSet_5_H (s : State) : Result :=
  setBitReg .i5 .h s

/-- `SET 5,L` (CB ED), R184. -/
def execSet_5_L (s : State) : Result :=
  setBitReg .i5 .l s

/-- `SET 5,A` (CB EF), R184. -/
def execSet_5_A (s : State) : Result :=
  setBitReg .i5 .a s

/-- `SET 6,B` (CB F0), R184. -/
def execSet_6_B (s : State) : Result :=
  setBitReg .i6 .b s

/-- `SET 6,C` (CB F1), R184. -/
def execSet_6_C (s : State) : Result :=
  setBitReg .i6 .c s

/-- `SET 6,D` (CB F2), R184. -/
def execSet_6_D (s : State) : Result :=
  setBitReg .i6 .d s

/-- `SET 6,E` (CB F3), R184. -/
def execSet_6_E (s : State) : Result :=
  setBitReg .i6 .e s

/-- `SET 6,H` (CB F4), R184. -/
def execSet_6_H (s : State) : Result :=
  setBitReg .i6 .h s

/-- `SET 6,L` (CB F5), R184. -/
def execSet_6_L (s : State) : Result :=
  setBitReg .i6 .l s

/-- `SET 6,A` (CB F7), R184. -/
def execSet_6_A (s : State) : Result :=
  setBitReg .i6 .a s

/-- `SET 7,B` (CB F8), R184. -/
def execSet_7_B (s : State) : Result :=
  setBitReg .i7 .b s

/-- `SET 7,C` (CB F9), R184. -/
def execSet_7_C (s : State) : Result :=
  setBitReg .i7 .c s

/-- `SET 7,D` (CB FA), R184. -/
def execSet_7_D (s : State) : Result :=
  setBitReg .i7 .d s

/-- `SET 7,E` (CB FB), R184. -/
def execSet_7_E (s : State) : Result :=
  setBitReg .i7 .e s

/-- `SET 7,H` (CB FC), R184. -/
def execSet_7_H (s : State) : Result :=
  setBitReg .i7 .h s

/-- `SET 7,L` (CB FD), R184. -/
def execSet_7_L (s : State) : Result :=
  setBitReg .i7 .l s

/-- `SET 7,A` (CB FF), R184. -/
def execSet_7_A (s : State) : Result :=
  setBitReg .i7 .a s

/-- `SET 0,(HL)` (CB C6), R185. -/
def execSet_0_atHL (s : State) : Result :=
  setBitMem .i0 s

/-- `SET 1,(HL)` (CB CE), R185. -/
def execSet_1_atHL (s : State) : Result :=
  setBitMem .i1 s

/-- `SET 2,(HL)` (CB D6), R185. -/
def execSet_2_atHL (s : State) : Result :=
  setBitMem .i2 s

/-- `SET 3,(HL)` (CB DE), R185. -/
def execSet_3_atHL (s : State) : Result :=
  setBitMem .i3 s

/-- `SET 4,(HL)` (CB E6), R185. -/
def execSet_4_atHL (s : State) : Result :=
  setBitMem .i4 s

/-- `SET 5,(HL)` (CB EE), R185. -/
def execSet_5_atHL (s : State) : Result :=
  setBitMem .i5 s

/-- `SET 6,(HL)` (CB F6), R185. -/
def execSet_6_atHL (s : State) : Result :=
  setBitMem .i6 s

/-- `SET 7,(HL)` (CB FE), R185. -/
def execSet_7_atHL (s : State) : Result :=
  setBitMem .i7 s

end Sys2Proof.Machine
end

