-- ==== Sys2Proof/Machine/Rotates.lean ====
section
/-! DEFINITION. Sys2Proof/Machine/Rotates.lean: rotates and shifts (43_rotate_shift_bit.md R159 to R179). -/

namespace Sys2Proof.Machine

/-! ### Shared forms -/

/-- The register form of a CB-table rotate or shift (R163). -/
def rotReg (op : RotOp) (r : Reg) (s : State) : Result :=
  updateReg r (rotate op s.cpu.flags) 8 s

/-- The form on the byte at HL (R163). -/
def rotMem (op : RotOp) (s : State) : Result :=
  updateMem (rotate op s.cpu.flags) 16 s

/-! ### The instructions -/

/-- `RLCA` (07), R159. -/
def execRlca (s : State) : Result :=
  updateReg .a (rotateA .rlc s.cpu.flags) 4 s

/-- `RRCA` (0F), R160. -/
def execRrca (s : State) : Result :=
  updateReg .a (rotateA .rrc s.cpu.flags) 4 s

/-- `RLA` (17), R161. -/
def execRla (s : State) : Result :=
  updateReg .a (rotateA .rl s.cpu.flags) 4 s

/-- `RRA` (1F), R162. -/
def execRra (s : State) : Result :=
  updateReg .a (rotateA .rr s.cpu.flags) 4 s

/-- `RLC B` (CB 00), R164. -/
def execRlc_B (s : State) : Result :=
  rotReg .rlc .b s

/-- `RLC C` (CB 01), R164. -/
def execRlc_C (s : State) : Result :=
  rotReg .rlc .c s

/-- `RLC D` (CB 02), R164. -/
def execRlc_D (s : State) : Result :=
  rotReg .rlc .d s

/-- `RLC E` (CB 03), R164. -/
def execRlc_E (s : State) : Result :=
  rotReg .rlc .e s

/-- `RLC H` (CB 04), R164. -/
def execRlc_H (s : State) : Result :=
  rotReg .rlc .h s

/-- `RLC L` (CB 05), R164. -/
def execRlc_L (s : State) : Result :=
  rotReg .rlc .l s

/-- `RLC A` (CB 07), R164. -/
def execRlc_A (s : State) : Result :=
  rotReg .rlc .a s

/-- `RLC (HL)` (CB 06), R165. -/
def execRlc_atHL (s : State) : Result :=
  rotMem .rlc s

/-- `RRC B` (CB 08), R166. -/
def execRrc_B (s : State) : Result :=
  rotReg .rrc .b s

/-- `RRC C` (CB 09), R166. -/
def execRrc_C (s : State) : Result :=
  rotReg .rrc .c s

/-- `RRC D` (CB 0A), R166. -/
def execRrc_D (s : State) : Result :=
  rotReg .rrc .d s

/-- `RRC E` (CB 0B), R166. -/
def execRrc_E (s : State) : Result :=
  rotReg .rrc .e s

/-- `RRC H` (CB 0C), R166. -/
def execRrc_H (s : State) : Result :=
  rotReg .rrc .h s

/-- `RRC L` (CB 0D), R166. -/
def execRrc_L (s : State) : Result :=
  rotReg .rrc .l s

/-- `RRC A` (CB 0F), R166. -/
def execRrc_A (s : State) : Result :=
  rotReg .rrc .a s

/-- `RRC (HL)` (CB 0E), R167. -/
def execRrc_atHL (s : State) : Result :=
  rotMem .rrc s

/-- `RL B` (CB 10), R168. -/
def execRl_B (s : State) : Result :=
  rotReg .rl .b s

/-- `RL C` (CB 11), R168. -/
def execRl_C (s : State) : Result :=
  rotReg .rl .c s

/-- `RL D` (CB 12), R168. -/
def execRl_D (s : State) : Result :=
  rotReg .rl .d s

/-- `RL E` (CB 13), R168. -/
def execRl_E (s : State) : Result :=
  rotReg .rl .e s

/-- `RL H` (CB 14), R168. -/
def execRl_H (s : State) : Result :=
  rotReg .rl .h s

/-- `RL L` (CB 15), R168. -/
def execRl_L (s : State) : Result :=
  rotReg .rl .l s

/-- `RL A` (CB 17), R168. -/
def execRl_A (s : State) : Result :=
  rotReg .rl .a s

/-- `RL (HL)` (CB 16), R169. -/
def execRl_atHL (s : State) : Result :=
  rotMem .rl s

/-- `RR B` (CB 18), R170. -/
def execRr_B (s : State) : Result :=
  rotReg .rr .b s

/-- `RR C` (CB 19), R170. -/
def execRr_C (s : State) : Result :=
  rotReg .rr .c s

/-- `RR D` (CB 1A), R170. -/
def execRr_D (s : State) : Result :=
  rotReg .rr .d s

/-- `RR E` (CB 1B), R170. -/
def execRr_E (s : State) : Result :=
  rotReg .rr .e s

/-- `RR H` (CB 1C), R170. -/
def execRr_H (s : State) : Result :=
  rotReg .rr .h s

/-- `RR L` (CB 1D), R170. -/
def execRr_L (s : State) : Result :=
  rotReg .rr .l s

/-- `RR A` (CB 1F), R170. -/
def execRr_A (s : State) : Result :=
  rotReg .rr .a s

/-- `RR (HL)` (CB 1E), R171. -/
def execRr_atHL (s : State) : Result :=
  rotMem .rr s

/-- `SLA B` (CB 20), R172. -/
def execSla_B (s : State) : Result :=
  rotReg .sla .b s

/-- `SLA C` (CB 21), R172. -/
def execSla_C (s : State) : Result :=
  rotReg .sla .c s

/-- `SLA D` (CB 22), R172. -/
def execSla_D (s : State) : Result :=
  rotReg .sla .d s

/-- `SLA E` (CB 23), R172. -/
def execSla_E (s : State) : Result :=
  rotReg .sla .e s

/-- `SLA H` (CB 24), R172. -/
def execSla_H (s : State) : Result :=
  rotReg .sla .h s

/-- `SLA L` (CB 25), R172. -/
def execSla_L (s : State) : Result :=
  rotReg .sla .l s

/-- `SLA A` (CB 27), R172. -/
def execSla_A (s : State) : Result :=
  rotReg .sla .a s

/-- `SLA (HL)` (CB 26), R173. -/
def execSla_atHL (s : State) : Result :=
  rotMem .sla s

/-- `SRA B` (CB 28), R174. -/
def execSra_B (s : State) : Result :=
  rotReg .sra .b s

/-- `SRA C` (CB 29), R174. -/
def execSra_C (s : State) : Result :=
  rotReg .sra .c s

/-- `SRA D` (CB 2A), R174. -/
def execSra_D (s : State) : Result :=
  rotReg .sra .d s

/-- `SRA E` (CB 2B), R174. -/
def execSra_E (s : State) : Result :=
  rotReg .sra .e s

/-- `SRA H` (CB 2C), R174. -/
def execSra_H (s : State) : Result :=
  rotReg .sra .h s

/-- `SRA L` (CB 2D), R174. -/
def execSra_L (s : State) : Result :=
  rotReg .sra .l s

/-- `SRA A` (CB 2F), R174. -/
def execSra_A (s : State) : Result :=
  rotReg .sra .a s

/-- `SRA (HL)` (CB 2E), R175. -/
def execSra_atHL (s : State) : Result :=
  rotMem .sra s

/-- `SWAP B` (CB 30), R176. -/
def execSwap_B (s : State) : Result :=
  rotReg .swap .b s

/-- `SWAP C` (CB 31), R176. -/
def execSwap_C (s : State) : Result :=
  rotReg .swap .c s

/-- `SWAP D` (CB 32), R176. -/
def execSwap_D (s : State) : Result :=
  rotReg .swap .d s

/-- `SWAP E` (CB 33), R176. -/
def execSwap_E (s : State) : Result :=
  rotReg .swap .e s

/-- `SWAP H` (CB 34), R176. -/
def execSwap_H (s : State) : Result :=
  rotReg .swap .h s

/-- `SWAP L` (CB 35), R176. -/
def execSwap_L (s : State) : Result :=
  rotReg .swap .l s

/-- `SWAP A` (CB 37), R176. -/
def execSwap_A (s : State) : Result :=
  rotReg .swap .a s

/-- `SWAP (HL)` (CB 36), R177. -/
def execSwap_atHL (s : State) : Result :=
  rotMem .swap s

/-- `SRL B` (CB 38), R178. -/
def execSrl_B (s : State) : Result :=
  rotReg .srl .b s

/-- `SRL C` (CB 39), R178. -/
def execSrl_C (s : State) : Result :=
  rotReg .srl .c s

/-- `SRL D` (CB 3A), R178. -/
def execSrl_D (s : State) : Result :=
  rotReg .srl .d s

/-- `SRL E` (CB 3B), R178. -/
def execSrl_E (s : State) : Result :=
  rotReg .srl .e s

/-- `SRL H` (CB 3C), R178. -/
def execSrl_H (s : State) : Result :=
  rotReg .srl .h s

/-- `SRL L` (CB 3D), R178. -/
def execSrl_L (s : State) : Result :=
  rotReg .srl .l s

/-- `SRL A` (CB 3F), R178. -/
def execSrl_A (s : State) : Result :=
  rotReg .srl .a s

/-- `SRL (HL)` (CB 3E), R179. -/
def execSrl_atHL (s : State) : Result :=
  rotMem .srl s

end Sys2Proof.Machine
end

