-- ==== Sys2Proof/Machine/System.lean ====
section
/-! DEFINITION. Sys2Proof/Machine/System.lean: the system instructions, the escape byte and the invalid bytes (45_system.md R198 to R204). -/

namespace Sys2Proof.Machine

/-! ### Shared forms -/

/-- EI: `if EI_DELAY = 1 then ei_pending <- 1 else IME <- 1` (R202). -/
def enableIrq (s : State) : State :=
  match s.config.eiDelay with
  | .one => s.setIme s.cpu.ime true
  | .zero => s.setIme true s.cpu.eiPending

/-- A rotate or shift of an `r8` operand (30_encoding.md R82, x = 0). -/
def cbRot (op : RotOp) (r : R8) (s : State) : Result :=
  match r with
  | .reg r => rotReg op r s
  | .atHL => rotMem op s

/-- BIT of an `r8` operand (R82, x = 1). -/
def cbBit (y : Oct) (r : R8) (s : State) : Result :=
  match r with
  | .reg r => bitReg y r s
  | .atHL => bitMem y s

/-- RES of an `r8` operand (R82, x = 2). -/
def cbRes (y : Oct) (r : R8) (s : State) : Result :=
  match r with
  | .reg r => resBitReg y r s
  | .atHL => resBitMem y s

/-- SET of an `r8` operand (R82, x = 3). -/
def cbSet (y : Oct) (r : R8) (s : State) : Result :=
  match r with
  | .reg r => setBitReg y r s
  | .atHL => setBitMem y s

/-- The CB-table rule that a second byte selects (R203; 30_encoding.md R82), with PC past both bytes. -/
def cbByte (cbop : Byte) (s : State) : Result :=
  match fieldX cbop with
  | 0 => cbRot (rotOf (fieldY cbop)) (r8Of (fieldZ cbop)) s
  | 1 => cbBit (fieldY cbop) (r8Of (fieldZ cbop)) s
  | 2 => cbRes (fieldY cbop) (r8Of (fieldZ cbop)) s
  | _ => cbSet (fieldY cbop) (r8Of (fieldZ cbop)) s

/-! ### The instructions -/

/-- `INVALID` (any invalid byte), R204: the fault carries the byte and the address it was fetched from, one below PC. -/
def execInvalid (op : Byte) (s : State) : Result :=
  invalidAt op (s.cpu.pc - 1)

/-- `NOP` (00), R198. -/
def execNop (s : State) : Result :=
  done 4 s

/-- `HALT` (76), R199. -/
def execHalt (s : State) : Result :=
  done 4 (s.setRun .halted)

/-- `STOP` (10), R200: `run <- Stopped`; the step has moved PC past STOP_LENGTH bytes, and the ignored byte has no effect. -/
def execStop (s : State) : Result :=
  done 4 (s.setRun .stopped)

/-- `DI` (F3), R201. -/
def execDi (s : State) : Result :=
  done 4 (s.setIme false false)

/-- `EI` (FB), R202. -/
def execEi (s : State) : Result :=
  done 4 (enableIrq s)

/-- `PREFIX` (CB), R203: the second byte is fetched with `imm8()` and its CB-table rule runs (Machine/System.lean, `cbByte`). -/
def execPrefixCb (s : State) : Result :=
  cbByte (s.readByte 1 s.cpu.pc) (s.setPc (s.cpu.pc + 1))

end Sys2Proof.Machine
end

