-- ==== Sys2Proof/Machine/CpuStep.lean ====
section
/-! DEFINITION. Sys2Proof/Machine/CpuStep.lean: fetch and decode (30_encoding.md R80), the CPU step (60_exceptions.md
R206 to R208), the system step around it (R205), and the placing of an instruction where the next step fetches. -/

namespace Sys2Proof.Machine

/-! ### Before the instruction -/

/-- The host's turn between two steps: `JoypadChange` requests the joypad interrupt (R233). -/
def hostTurn (s : State) : State :=
  match s.joypadEvents with
  | [] => s
  | change :: rest =>
    let s1 := { s with joypadEvents := rest }
    if change then requestIrq .joypad s1 else s1

/-- The boot overlay unmaps when PC is 0x0100 at the start of a step (20_memory.md R41). -/
def unmapBoot (s : State) : State :=
  if s.bootMapped && s.cpu.pc == 0x0100 then { s with bootMapped := false } else s

/-- `Wake(pending)` (R208). -/
def wake (s : State) : State :=
  match s.cpu.run with
  | .running => s
  | .halted => if s.pending = 0 then s else s.setRun .running
  | .stopped =>
    match s.config.stopMode with
    | .immediateWake => s.setRun .running
    | .asHalt => if s.pending = 0 then s else s.setRun .running

/-- The interrupt that the check of R206 dispatches: the first pending one, if IME is set. -/
def interruptTaken (s : State) : Option IrqSource :=
  if s.cpu.ime then firstPending s.pending else none

/-! ### The instruction -/

/-- The instruction at PC (R80): a window of three bytes, read in order. Reads have no side effect
(20_memory.md R63), so the bytes past a shorter instruction do not matter. -/
def fetched (s : State) : Instr :=
  decodeWindow (s.readByte 0 s.cpu.pc) (s.readByte 1 (s.cpu.pc + 1)) (s.readByte 2 (s.cpu.pc + 2))

/-- PC past the whole instruction, `pc_next` (10_state.md R13). -/
def advancePc (i : Instr) (s : State) : State :=
  s.setPc (s.cpu.pc + BitVec.ofNat 16 (i.length s.config.stopLength))

/-- `ApplyEiDelay(was_pending)` (R207). -/
def applyEiDelay (wasPending : Bool) (s : State) : State :=
  if wasPending && s.cpu.eiPending then s.setIme true false else s

/-- Fetches, decodes and executes one instruction, then applies the EI delay (R206). -/
def runInstr (s : State) : Result :=
  match exec (fetched s) (advancePc (fetched s) s) with
  | .next t => .next (applyEiDelay s.cpu.eiPending t)
  | .fault f => .fault f
  | .refused r => .refused r

/-- What the CPU step does after the unmap check and the wake (R206): dispatch, wait, or run an instruction. -/
def dispatchOrRun (s : State) : Result :=
  match interruptTaken s with
  | some k => .next (dispatchIrq k s)
  | none => if s.cpu.run = .running then runInstr s else done 4 s

/-- `CpuStep()` (R206). -/
def cpuStep (s : State) : Result :=
  dispatchOrRun (wake (unmapBoot s))

/-! ### The system step -/

/-- The timer and PPU advance by the cycles of the CPU step, and the step counter moves (R205). -/
def advanceDevices (s : State) : State :=
  let t := ppuAdvance s.cycles (timerAdvance s.cycles s)
  { t with draws := t.draws + 1 }

/-- Whether the LCD is off while `LCD_OFF_MODEL` refuses that (R231). -/
def lcdRefused (s : State) : Bool :=
  s.config.lcdOff == .refuse && !(s.ppu.lcdc.getLsbD 7)

/-- The end of a system step: the devices advance, or the step is `Unsupported` (R205, R221, R231, R232). DESIGN CHOICE,
log entry 22: of a step that both wrote 0xFF46 and ends with LCDC[7] = 0 under `LCD_OFF_MODEL = REFUSE` the spec does
not say which `Unsupported` it returns; here it is "OAM DMA". -/
def finishStep (s : State) : Result :=
  if s.dmaWritten then .refused .oamDma
  else if lcdRefused s then .refused .lcdOff
  else .next (advanceDevices s)

/-- `SystemStep()` (R205): a recorded fault is returned again and again (10_state.md R20); otherwise the host's turn, the
CPU step, and the devices. -/
def systemStep (s : State) : Result :=
  match s.cpu.fault with
  | some f => .fault (.invalidOpcode f.byte f.addr)
  | none =>
    if s.dmaWritten then .refused .oamDma
    else
      match cpuStep (hostTurn s) with
      | .next t => finishStep t
      | .fault f => .fault f
      | .refused r => .refused r

/-- The state that an invalid opcode leaves behind (45_system.md R204; R217): that at the start of the faulting
instruction, with the fault recorded. -/
def faultedState (s : State) (byte : Byte) (addr : Word) : State :=
  (wake (unmapBoot (hostTurn s))).withFault byte addr

/-! ### Placing an instruction

No step does this: it stands for the load of a program from outside (log entry 8). -/

/-- Makes the byte at an address read as `v` where its storage can hold it: the boot image, the cartridge image, or a
RAM. Elsewhere nothing changes. -/
def placeByte (s : State) (a : Word) (v : Byte) : State :=
  match region a with
  | .rom0 =>
    match bootByte s a, s.boot with
    | some _, some image => { s with boot := some (image.setIfInBounds a.toNat v) }
    | _, _ => { s with cart := s.cart.withByte (romOffset s a) v }
  | .romWindow => { s with cart := s.cart.withByte (romOffset s a) v }
  | .vram | .wram | .echo | .oam | .hram | .eram => busWrite s a v
  | .unmapped | .io | .ie => s

/-- Places three bytes at PC. -/
def placeWindow (s : State) (b0 b1 b2 : Byte) : State :=
  placeByte (placeByte (placeByte s s.cpu.pc b0) (s.cpu.pc + 1) b1) (s.cpu.pc + 2) b2

/-- Whether the bytes at PC are the given ones, in storage that no draw can change. -/
def windowIs (s : State) (b0 b1 b2 : Byte) : Bool :=
  busRead 0 s s.cpu.pc == b0 && busRead 0 s (s.cpu.pc + 1) == b1 && busRead 0 s (s.cpu.pc + 2) == b2
    && s.cpu.pc != 0xFF00 && s.cpu.pc + 1 != 0xFF00 && s.cpu.pc + 2 != 0xFF00

/-- Makes the next step reach its fetch: no recorded stop, `run` = Running, and IME clear if an interrupt would be
dispatched instead. -/
def readyToFetch (s : State) : State :=
  let ime := s.cpu.ime && (firstPending (hostTurn s).pending).isNone
  { s with dmaWritten := false
           cpu := { s.cpu with fault := none, run := .running, ime := ime } }

/-- Places an instruction's bytes where the next step fetches; if PC points where no byte can be placed, PC moves to the
start of work RAM. -/
def placeInstr (s : State) (b0 b1 b2 : Byte) : State :=
  let s0 := readyToFetch s
  let s1 := placeWindow s0 b0 b1 b2
  if windowIs s1 b0 b1 b2 then s1 else placeWindow (s0.setPc 0xC000) b0 b1 b2

end Sys2Proof.Machine
end

