-- ==== Sys2Proof/Machine/Step.lean ====
section
/-! DEFINITION. Sys2Proof/Machine/Step.lean: the machine's step (60_exceptions.md R205), and the placing of a word of
opcode_table.json where the next step fetches. -/

namespace Sys2Proof.Machine

/-- One system step (R205). -/
def step (s : State) : Host.Outcome State Fault Refusal :=
  systemStep s

/-- The state with the instruction of a word of opcode_table.json where the next step fetches it. -/
def State.withFetchWord (s : State) (nbits w : Nat) : State :=
  placeInstr s ((tableBytes nbits w).getD 0 0) ((tableBytes nbits w).getD 1 0) ((tableBytes nbits w).getD 2 0)

end Sys2Proof.Machine
end

