-- ==== Sys2Proof/Machine/Cartridge.lean ====
section
/-! DEFINITION. Sys2Proof/Machine/Cartridge.lean: the load sequence and the two reset forms (20_memory.md R70;
70_reset_and_hazards.md R238 to R242; 10_state.md R34, R35), with every parameter of 00_scope.md R5 that matters
only then: `CART`, `BOOT_IMAGE`, `POST_BOOT` and `RESET_RAM`. -/

namespace Sys2Proof.Machine

/-- The one load-time error (60_exceptions.md R218): no initial state exists. -/
inductive LoadError
  | invalidRom
  deriving DecidableEq, Repr

/-- `POST_BOOT` (R5: "the post-boot register and I/O values"): the elements of R34's table that it may vary. DESIGN
CHOICE, log entry 23: the spec does not list them; here they are those that no other rule fixes. R238 fixes PC, IME,
`ei_pending`, `run` and `fault`; R239 the accumulators, the PPU's position and draw, `frames` and the bank fields; R27
`boot_mapped`; R240 the IO cells; log entry 6 has STAT[2]. -/
structure PostBoot where
  a : Byte
  b : Byte
  c : Byte
  d : Byte
  e : Byte
  h : Byte
  l : Byte
  flags : Flags
  sp : Word
  irq : Irq
  div : Byte
  tima : Byte
  tma : Byte
  tac : BitVec 3
  lcdc : Byte
  /-- STAT[6:3]. -/
  statEnable : BitVec 4
  scy : Byte
  scx : Byte
  lyc : Byte
  bgp : Byte
  obp0 : Byte
  obp1 : Byte
  wy : Byte
  wx : Byte
  p1Select : BitVec 2
  deriving DecidableEq, Repr

/-- The default of `POST_BOOT`: the table of R34. P1[5:4] is 11, as the table's bits say and its read of 0xCF does not
(DESIGN CHOICE, log entry 24). -/
def PostBoot.default : PostBoot where
  a := 0x01
  b := 0x00
  c := 0x13
  d := 0x00
  e := 0xD8
  h := 0x01
  l := 0x4D
  flags := { z := true, n := false, h := true, c := true }
  sp := 0xFFFE
  irq := Irq.reset
  div := 0xAB
  tima := 0x00
  tma := 0x00
  tac := 0
  lcdc := 0x91
  statEnable := 0
  scy := 0
  scx := 0
  lyc := 0
  bgp := 0xFC
  obp0 := 0xFF
  obp1 := 0xFF
  wy := 0
  wx := 0
  p1Select := 0b11

/-- The CPU that `POST_BOOT` gives: its registers, with the PC and the control state of R238. -/
def PostBoot.cpu (post : PostBoot) : Cpu :=
  { Cpu.reset with
    a := post.a, b := post.b, c := post.c, d := post.d, e := post.e, h := post.h, l := post.l
    flags := post.flags, sp := post.sp }

/-- The timer that `POST_BOOT` gives: its registers, with the accumulators of R239. -/
def PostBoot.timer (post : PostBoot) : Timer where
  div := post.div
  tima := post.tima
  tma := post.tma
  tac := post.tac
  divAcc := 0
  timaAcc := 0

/-- The PPU that `POST_BOOT` gives: its registers, with the position and the draw of R239. -/
def PostBoot.ppu (post : PostBoot) : Ppu :=
  { Ppu.reset with
    lcdc := post.lcdc, statEnable := post.statEnable, scy := post.scy, scx := post.scx, lyc := post.lyc
    bgp := post.bgp, obp0 := post.obp0, obp1 := post.obp1, wy := post.wy, wx := post.wx }

/-! ### The header (R70) -/

/-- A byte of an image, 0xFF past its end (R48, R241). -/
def imageByte (image : List Byte) (o : Nat) : Byte :=
  image.getD o 0xFF

/-- `CART_KIND` from the type byte at 0x0147. -/
def headerKind (image : List Byte) : Option CartKind :=
  match (imageByte image 0x0147).toNat with
  | 0x00 => some .romOnly
  | 0x01 => some .mbc1
  | 0x02 => some .mbc1
  | 0x03 => some .mbc1
  | _ => none

/-- The declared ROM size, `0x8000 << code`, from the byte at 0x0148. -/
def declaredSize (image : List Byte) : Nat :=
  0x8000 * 2 ^ (imageByte image 0x0148).toNat

/-- `ERAM_SIZE` from the RAM-size code at 0x0149. -/
def headerEram (image : List Byte) : Nat :=
  match (imageByte image 0x0149).toNat with
  | 1 => 2048
  | 2 => 8192
  | 3 => 32768
  | _ => 0

/-- The bytes of an image that are not 0x00, from offset `o` on. -/
def imageCells : List Byte → Nat → Memory
  | [], _ => []
  | v :: rest, o => if v = 0 then imageCells rest (o + 1) else (o, v) :: imageCells rest (o + 1)

/-- The cartridge of an image that passes the load checks (R70). -/
def loadCart (image : List Byte) : Except LoadError Cart :=
  match headerKind image with
  | none => .error .invalidRom
  | some kind =>
    if image.length < declaredSize image then .error .invalidRom
    else .ok { size := image.length, image := imageCells image 0, kind := kind, eramSize := headerEram image }

/-! ### The reset forms (R238) -/

/-- Reset without a boot image (R34, R238 to R240): `POST_BOOT`, the IO cells at 0xFF, and RAM as `RESET_RAM`, of which
`ram` gives the cells that it lists. -/
def resetNoBoot (config : Config) (post : PostBoot) (ram : Memory) (cart : Cart) : State where
  cpu := post.cpu
  irq := post.irq
  timer := post.timer
  mbc := Mbc.reset
  ppu := post.ppu
  p1Select := post.p1Select
  bootMapped := false
  mem := Memory.atReset cart.eramSize ram
  cart := cart
  boot := none
  config := config
  cycles := 0
  warnings := 0
  dmaWritten := false
  joypadEvents := []
  draws := 0

/-- The CPU at reset with a boot image (R35): PC = 0, and the registers and SP are draws. -/
def bootCpu : Cpu where
  a := Config.bootReg 0
  flags := Flags.ofByte (Config.bootReg 1)
  b := Config.bootReg 2
  c := Config.bootReg 3
  d := Config.bootReg 4
  e := Config.bootReg 5
  h := Config.bootReg 6
  l := Config.bootReg 7
  sp := Config.bootSp
  pc := 0x0000
  ime := false
  eiPending := false
  run := .running
  fault := none

/-- Reset with a boot image (R35): the values of R34, but for the CPU, DIV, IF and LCDC, with the overlay mapped. The I/O
registers that take R34's values take those of `POST_BOOT` (DESIGN CHOICE, log entry 23). -/
def resetWithBoot (config : Config) (post : PostBoot) (ram : Memory) (cart : Cart) (boot : Vector Byte 256) : State :=
  { resetNoBoot config post ram cart with
    cpu := bootCpu
    irq := { post.irq with request := 0 }
    timer := { post.timer with div := 0 }
    ppu := { post.ppu with lcdc := 0x00 }
    bootMapped := true
    boot := some boot }

/-- `Load(CART, BOOT_IMAGE?)` (R241). -/
def load (config : Config) (post : PostBoot) (ram : Memory) (image : List Byte) (boot : Option (Vector Byte 256)) :
    Except LoadError State :=
  match loadCart image with
  | .error e => .error e
  | .ok cart =>
    match boot with
    | none => .ok (resetNoBoot config post ram cart)
    | some b => .ok (resetWithBoot config post ram cart b)

end Sys2Proof.Machine
end

