-- ==== Sys2Proof/Safety.lean ====
section
/-! DEFINITION. Sys2Proof/Safety.lean: the invariant of the machine's reachable states, when a step fetches, and what an
instruction leaves unchanged, in the terms that claims use. -/

namespace Sys2Proof.Machine

/-- Storage in canonical form, and only under keys that R31's arrays have, `ERAM_SIZE` bytes of ERAM among them. -/
def State.memOk (s : State) : Bool :=
  Memory.wf s.mem && s.mem.all (fun cell => Memory.isStorageKey s.cart.eramSize cell.1)

/-- The bank register never selects bank 0 (10_state.md R26: `rom_lo5` is in 1..31). -/
def State.bankOk (s : State) : Bool :=
  s.mbc.romLo5 != 0

/-- The PPU's position and draw are in range (10_state.md R29: LY in 0..153, `dot` in 0..455; 60_exceptions.md R226:
the pixel-transfer length in 172..289). -/
def Ppu.positionOk (p : Ppu) : Bool :=
  decide (p.ly.toNat < 154) && decide (p.dot < 456) && decide (172 ≤ p.mode3Len) && decide (p.mode3Len ≤ 289)

/-- The divider's accumulator is below 256 (10_state.md R25). -/
def Timer.divOk (t : Timer) : Bool :=
  decide (t.divAcc < 256)

/-- `ei_pending` is set only while running (60_exceptions.md R207), and never when EI_DELAY = 0 (10_state.md R18). -/
def State.eiOk (s : State) : Bool :=
  !s.cpu.eiPending || (s.cpu.run == .running && s.config.eiDelay == .one)

/-- The overlay is mapped only when a boot image is supplied (10_state.md R27). -/
def State.bootOk (s : State) : Bool :=
  !s.bootMapped || s.boot.isSome

/-- A state that a run can go on from: no fault is recorded, and no DMA write. -/
def State.goesOn (s : State) : Bool :=
  s.cpu.fault.isNone && !s.dmaWritten

/-- The invariant of the reachable states. -/
structure State.Inv (s : State) : Prop where
  mem : s.memOk = true
  cart : s.cart.wf = true
  bank : s.bankOk = true
  ppu : s.ppu.positionOk = true
  timer : s.timer.divOk = true
  ei : s.eiOk = true
  boot : s.bootOk = true
  goesOn : s.goesOn = true

/-- The configuration that no step writes (10_state.md R31; 00_scope.md R5). -/
def State.fixedPart (s : State) : Cart × Option (Vector Byte 256) × Config :=
  (s.cart, s.boot, s.config)

/-- The state of a step after the host's turn, the overlay check and the wake (60_exceptions.md R206): where an interrupt
is dispatched or an instruction is fetched. -/
def State.atFetch (s : State) : State :=
  wake (unmapBoot (hostTurn s))

/-- The three bytes at PC, as a fetch reads them (30_encoding.md R80). -/
def State.window (s : State) : List Byte :=
  [s.readByte 0 s.cpu.pc, s.readByte 1 (s.cpu.pc + 1), s.readByte 2 (s.cpu.pc + 2)]

/-- The step fetches (R206): nothing is recorded that stops it, no interrupt is dispatched, and the CPU runs. -/
def State.fetches (s : State) : Bool :=
  s.goesOn && (interruptTaken s.atFetch).isNone && s.atFetch.cpu.run == .running

/-! ### What an instruction changes and what it leaves alone -/

/-- Every 8-bit register but those listed keeps its value. -/
def SameRegs (changed : List Reg) (s t : State) : Prop :=
  ∀ q, q ∉ changed → t.reg q = s.reg q

/-- PC and SP keep their values. -/
def SamePcSp (s t : State) : Prop :=
  t.cpu.pc = s.cpu.pc ∧ t.cpu.sp = s.cpu.sp

/-- IME, `ei_pending`, `run` and `fault` keep their values. -/
def SameControl (s t : State) : Prop :=
  t.cpu.ime = s.cpu.ime ∧ t.cpu.eiPending = s.cpu.eiPending ∧ t.cpu.run = s.cpu.run ∧ t.cpu.fault = s.cpu.fault

/-- Nothing outside the CPU changes, but for the cycle count that the step returns: no device register, no bank field, no
byte of storage; and every address reads as before. -/
def SameOutside (s t : State) : Prop :=
  { t with cpu := s.cpu, cycles := s.cycles } = s ∧ ∀ joy x, busRead joy t x = busRead joy s x

/-- The outcome of an instruction that writes one register and the flags and nothing else, in `n` cycles. -/
structure RegFlagsWritten (r : Reg) (v : Byte) (f : Flags) (n : Nat) (s t : State) : Prop where
  value : t.reg r = v
  flags : t.cpu.flags = f
  regs : SameRegs [r] s t
  pcSp : SamePcSp s t
  control : SameControl s t
  outside : SameOutside s t
  cycles : t.cycles = n

/-- The outcome of an instruction that writes one register and nothing else, in `n` cycles. -/
abbrev RegWritten (r : Reg) (v : Byte) (n : Nat) (s t : State) : Prop :=
  RegFlagsWritten r v s.cpu.flags n s t

/-- The outcome of an instruction that writes the flags and nothing else, in `n` cycles. -/
structure FlagsWritten (f : Flags) (n : Nat) (s t : State) : Prop where
  flags : t.cpu.flags = f
  regs : SameRegs [] s t
  pcSp : SamePcSp s t
  control : SameControl s t
  outside : SameOutside s t
  cycles : t.cycles = n

/-- The outcome of an instruction that writes PC and nothing else, in `n` cycles. -/
structure PcWritten (v : Word) (n : Nat) (s t : State) : Prop where
  pc : t.cpu.pc = v
  cpu : { t.cpu with pc := s.cpu.pc } = s.cpu
  outside : SameOutside s t
  cycles : t.cycles = n

/-- The outcome of an instruction that changes the CPU to `c` and nothing else, in `n` cycles. -/
structure CpuBecomes (c : Cpu) (n : Nat) (s t : State) : Prop where
  cpu : t.cpu = c
  outside : SameOutside s t
  cycles : t.cycles = n

/-- The registers that a pair is made of (10_state.md R11); SP is none of them (R12). -/
def halves : R16 → List Reg
  | .bc => [.b, .c]
  | .de => [.d, .e]
  | .hl => [.h, .l]
  | .sp => []

/-- The outcome of an instruction that writes one pair (or SP) and the flags and nothing else, in `n` cycles. -/
structure PairFlagsWritten (p : R16) (v : Word) (f : Flags) (n : Nat) (s t : State) : Prop where
  value : t.r16 p = v
  flags : t.cpu.flags = f
  regs : SameRegs (halves p) s t
  sp : p ≠ .sp → t.cpu.sp = s.cpu.sp
  pc : t.cpu.pc = s.cpu.pc
  control : SameControl s t
  outside : SameOutside s t
  cycles : t.cycles = n

/-- The addresses that are plain storage (20_memory.md R50, R51, R52, R56): VRAM, WRAM and its echo, OAM, HRAM. -/
def plainStorage (a : Word) : Bool :=
  match region a with
  | .vram | .wram | .echo | .oam | .hram => true
  | _ => false

/-- Every address reads as before, but for the addresses listed and those that name the same cell through the echo; and a
write below 0x8000 is a bank command, after which the two banked windows may show other bytes. -/
def BytesKept (written : List Word) (s t : State) : Prop :=
  ∀ joy x, (∀ a ∈ written, mirrored x ≠ mirrored a) →
    ((∀ a ∈ written, 0x8000 ≤ a.toNat) ∨ (region x ≠ .romWindow ∧ region x ≠ .eram)) →
    busRead joy t x = busRead joy s x

/-- The outcome, outside the CPU, of storing the byte `v` at the address `a`: exactly the bus write of R39, which plain
storage then reads back, and every other byte is kept. -/
structure ByteStored (a : Word) (v : Byte) (s t : State) : Prop where
  exact : { t with cpu := s.cpu, cycles := s.cycles } = busWrite s a v
  reads : plainStorage a = true → ∀ joy, busRead joy t a = v
  frame : BytesKept [a] s t

/-- The outcome of an instruction that stores the byte `v` at the address `a`, leaves the CPU as `c` and changes nothing
else, in `n` cycles. -/
structure StoreDone (a : Word) (v : Byte) (c : Cpu) (n : Nat) (s t : State) : Prop where
  cpu : t.cpu = c
  stored : ByteStored a v s t
  cycles : t.cycles = n

/-- The outcome, outside the CPU, of storing first `v1` at `a1` and then `v2` at `a2`. -/
structure TwoBytesStored (a1 : Word) (v1 : Byte) (a2 : Word) (v2 : Byte) (s t : State) : Prop where
  exact : { t with cpu := s.cpu, cycles := s.cycles } = busWrite (busWrite s a1 v1) a2 v2
  reads1 : plainStorage a1 = true → ∀ joy, busRead joy t a1 = v1
  reads2 : plainStorage a2 = true → ∀ joy, busRead joy t a2 = v2
  frame : BytesKept [a1, a2] s t

/-- The outcome of pushing the word `v` (20_memory.md R61), PC and the control state aside: SP falls by 2, the high byte
is stored at the old SP - 1 and then the low byte at the old SP - 2. -/
structure WordPushed (v : Word) (s t : State) : Prop where
  sp : t.cpu.sp = s.cpu.sp - 2
  regs : SameRegs [] s t
  flags : t.cpu.flags = s.cpu.flags
  stored : TwoBytesStored (s.cpu.sp - 1) (hi8 v) (s.cpu.sp - 2) (lo8 v) s t

/-- The word at the top of the stack: the low byte at SP, the high byte at SP + 1 (R59, R61), as the reads 3 and 4 of the
step give them. -/
def topOfStack (s : State) : Word :=
  cat (s.readByte 4 (s.cpu.sp + 1)) (s.readByte 3 s.cpu.sp)

/-- The flags of a CB-table rotate or shift with the result `r` and the bit `c` shifted out (43_rotate_shift_bit.md R164 to
R179). -/
def shiftFlags (r : Byte) (c : Bool) : Flags where
  z := r == 0
  n := false
  h := false
  c := c

/-- A claim for the three forms of an ALU operation (41_alu8.md R113): its instruction, its operand byte and its cycles. -/
def ForAluForms (op : AluOp) (P : Instr → Byte → Nat → State → Prop) : Prop :=
  ∀ s, (∀ r, P (Instr.aluReg op r) (s.reg r) 4 s) ∧ P (Instr.aluMem op) (s.readData s.hl) 8 s
    ∧ ∀ n, P (Instr.aluImm op n) n 8 s

end Sys2Proof.Machine
end

