-- ==== Sys2Proof/Certificates/Slice0/Obligations.lean ====
section
/-! DEFINITION. Sys2Proof/Certificates/Slice0/Obligations.lean: the statements for the provers, in the order of
OBLIGATIONS.json. A statement about an instruction runs `exec` with PC past the whole instruction, as the step does
(10_state.md R13). -/

open Sys2Proof Sys2Proof.Machine

/-! ### Encoding -/

/-- O1. Words written out from the encodings of 40_load.md to 45_system.md decode to the instructions they stand for. -/
def Obligations.KnownWordsDecode : Prop :=
  decode [0x00] = .ok .nop
  ∧ decode [0x01, 0x34, 0x12] = .ok (.ld_BC_d16 0x1234)
  ∧ decode [0x48] = .ok .ld_C_B
  ∧ decode [0x2A] = .ok .ld_A_atHLinc
  ∧ decode [0x08, 0x00, 0xC1] = .ok (.ld_ata16_SP 0xC100)
  ∧ decode [0xF5] = .ok .push_AF
  ∧ decode [0x9C] = .ok .sbc_A_H
  ∧ decode [0xFE, 0x3C] = .ok (.cp_A_d8 0x3C)
  ∧ decode [0x19] = .ok .add_HL_DE
  ∧ decode [0xE8, 0x02] = .ok (.add_SP_e8 0x02)
  ∧ decode [0x20, 0xFC] = .ok (.jr_NZ_e8 0xFC)
  ∧ decode [0xCD, 0x00, 0x20] = .ok (.call_a16 0x2000)
  ∧ decode [0xFF] = .ok .rst_38
  ∧ decode [0x76] = .ok .halt
  ∧ decode [0xCB, 0x30] = .ok .swap_B
  ∧ decode [0xCB, 0x7E] = .ok .bit_7_atHL
  ∧ decode [0xCB, 0xF8] = .ok .set_7_B
  ∧ decode [0xD3] = .ok (.invalid 0xD3)

/-- O2. Decoding the bytes of a well-formed instruction gives it back, whatever bytes follow. The escape byte alone is not
an instruction (45_system.md R203): followed by any byte it is the CB-table instruction of that byte. That a lone 0xCB, with
no byte after it, decodes to the constructor `prefixCb` of the table's PREFIX_CB row (second clause) is the model's own
choice, not the spec's (log entry 7, DESIGN CHOICE; log entry 20, DEDUCED). -/
def Obligations.DecodeEncodeRoundTrip : Prop :=
  (∀ (i : Instr) (rest : List Byte), WellFormed i → i ≠ .prefixCb → decode (encode i ++ rest) = .ok i)
  ∧ decode (encode .prefixCb) = .ok .prefixCb
  ∧ ∀ (b : Byte) (rest : List Byte), decode (0xCB :: b :: rest) = .ok (decodeCb b)

/-- O3. The other direction: three bytes decode to an instruction whose own bytes are the first of them. Only STOP is left
out, whose second byte is ignored (45_system.md R200). -/
def Obligations.EncodeReproducesBytes : Prop :=
  ∀ op b1 b2 : Byte, decodeWindow op b1 b2 ≠ .stop → encode (decodeWindow op b1 b2) <+: [op, b1, b2]

/-- O4. The invalid main-table bytes are exactly the 11 of 30_encoding.md R83, and running one is the fatal fault with the
byte and its address, one below the advanced PC. -/
def Obligations.InvalidBytesExactly : Prop :=
  (∀ op b1 b2 b : Byte, decodeWindow op b1 b2 = .invalid b ↔
    b = op ∧ op ∈ ([0xD3, 0xDB, 0xDD, 0xE3, 0xE4, 0xEB, 0xEC, 0xED, 0xF4, 0xFC, 0xFD] : List Byte))
  ∧ ∀ (op : Byte) (s : State), exec (.invalid op) s = .fault (.invalidOpcode op (s.cpu.pc - 1))

/-! ### The step -/

/-- O5. When a step fetches and the bytes at PC decode to `i`, the step is `exec i` with PC past the instruction, then the
EI delay, then the end of the step (60_exceptions.md R205, R206). The end of a step is a refusal, of OAM DMA or of a
switched-off LCD (R231, R232), or else the advance of the devices: the timer by the step's cycles, then the PPU by as many
(R205), the PPU's advance being as many ticks on its own state and IF, with everything else kept (R226). The model's own: that
the refusals stand between the CPU step and the devices (log entries 11 and 12, DEDUCED), that OAM DMA comes first where both
hold (log entry 22, DESIGN CHOICE), and that the host's turn is the first thing in `atFetch` (log entries 10, DESIGN CHOICE,
and 21, DEDUCED); `draws` is the model's counter (log entry 2). -/
def Obligations.StepRunsDecodedInstruction : Prop :=
  (∀ (s : State) (i : Instr), s.fetches = true → decode s.atFetch.window = .ok i →
    step s = match exec i (s.atFetch.setPc (s.atFetch.cpu.pc + BitVec.ofNat 16 (i.length s.config.stopLength))) with
      | .next t => finishStep (if s.atFetch.cpu.eiPending && t.cpu.eiPending then t.setIme true false else t)
      | .fault f => .fault f
      | .refused r => .refused r)
  ∧ (∀ s : State, s.atFetch = wake (unmapBoot (hostTurn s)))
  ∧ (∀ t : State, finishStep t =
      if t.dmaWritten = true then .refused .oamDma
      else if t.config.lcdOff = .refuse ∧ t.ppu.lcdc.getLsbD 7 = false then .refused .lcdOff
      else .next (advanceDevices t))
  ∧ (∀ t : State, advanceDevices t = { ppuAdvance t.cycles (timerAdvance t.cycles t) with draws := t.draws + 1 })
  ∧ (∀ (n : Nat) (s : State),
      let x := ppuTicks n { ppu := s.ppu, request := s.irq.request }
      ppuAdvance n s = { s with ppu := x.ppu, irq := { s.irq with request := x.request } })
  ∧ ∀ x : PpuIrq, ppuTicks 0 x = x ∧ ∀ n, ppuTicks (n + 1) x = ppuTicks n (ppuTick x)

/-- O6. Dispatch (60_exceptions.md R214). The source is the lowest pending bit; IME and `ei_pending` fall, PC is pushed and
goes to the source's vector, and IF[k] is cleared in whatever the push left. No register, no flag and no other bit of IF
changes but through the two stores of the push. 20 cycles. -/
def Obligations.InterruptDispatchEffect : Prop :=
  (∀ (s : State) (k : IrqSource), interruptTaken s = some k → s.cpu.ime = true ∧ s.pending.getLsbD k.bit = true
    ∧ ∀ j, j < k.bit → s.pending.getLsbD j = false)
  ∧ ∀ (k : IrqSource) (s : State),
    let t := dispatchIrq k s
    let u := busWrite (busWrite s (s.cpu.sp - 1) (hi8 s.cpu.pc)) (s.cpu.sp - 2) (lo8 s.cpu.pc)
    t.cpu = { s.cpu with ime := false, eiPending := false, sp := s.cpu.sp - 2, pc := BitVec.ofNat 16 (0x40 + 8 * k.bit) }
    ∧ (∀ j, t.irq.request.getLsbD j = (u.irq.request.getLsbD j && decide (j ≠ k.bit)))
    ∧ { t with cpu := s.cpu, cycles := s.cycles, irq := u.irq } = u
    ∧ t.irq.enable = u.irq.enable
    ∧ (plainStorage (s.cpu.sp - 1) = true → ∀ joy, busRead joy t (s.cpu.sp - 1) = hi8 s.cpu.pc)
    ∧ (plainStorage (s.cpu.sp - 2) = true → ∀ joy, busRead joy t (s.cpu.sp - 2) = lo8 s.cpu.pc)
    ∧ BytesKept [s.cpu.sp - 1, s.cpu.sp - 2, 0xFF0F] s t
    ∧ t.cycles = 20

/-- O7. The interrupt check of a step (60_exceptions.md R206, R212): none is selected exactly when IE & IF is 0, and
otherwise its lowest set bit, whatever IME is; acknowledging source k clears IF[k] alone. With IME set the selected source
is dispatched, whatever `run` is, and no instruction is fetched; with IME clear or nothing pending, nothing is dispatched. -/
def Obligations.StepTakesHighestPriorityInterrupt : Prop :=
  (∀ s : State, firstPending s.pending = none ↔ s.irq.enable &&& s.irq.request = 0)
  ∧ (∀ (s : State) (k : IrqSource), firstPending s.pending = some k ↔
      (s.irq.enable &&& s.irq.request).getLsbD k.bit = true
      ∧ ∀ j, j < k.bit → (s.irq.enable &&& s.irq.request).getLsbD j = false)
  ∧ (∀ (s : State) (k : IrqSource), { acknowledgeIrq k s with irq := s.irq } = s
      ∧ (acknowledgeIrq k s).irq.enable = s.irq.enable
      ∧ ∀ j, (acknowledgeIrq k s).irq.request.getLsbD j = (s.irq.request.getLsbD j && decide (j ≠ k.bit)))
  ∧ ∀ s : State, s.goesOn = true →
    (∀ k : IrqSource, s.atFetch.cpu.ime = true → (s.atFetch.irq.enable &&& s.atFetch.irq.request).getLsbD k.bit = true →
      (∀ j, j < k.bit → (s.atFetch.irq.enable &&& s.atFetch.irq.request).getLsbD j = false) →
      step s = finishStep (dispatchIrq k s.atFetch))
    ∧ (s.atFetch.cpu.ime = false ∨ s.atFetch.irq.enable &&& s.atFetch.irq.request = 0 → interruptTaken s.atFetch = none)

/-- O8. The wake of a step (60_exceptions.md R208), and what the step then does (R206). A CPU found with IE & IF ≠ 0 wakes
whatever IME is; a step whose CPU runs after the wake dispatches the first pending source with IME = 1, and executes the next
instruction with IME = 0; a step that finds the CPU still halted or stopped costs 4 cycles (R209) and changes nothing but
through the devices and what stands before the fetch: the overlay check (20_memory.md R41) and the host's turn, whose place is
the model's (log entries 10, DESIGN CHOICE, and 21, DEDUCED). -/
def Obligations.WakeAndWait : Prop :=
  (∀ s : State, s.cpu.run = .running → wake s = s)
  ∧ (∀ s : State, s.cpu.run = .halted → wake s = if s.irq.enable &&& s.irq.request = 0 then s else s.setRun .running)
  ∧ (∀ s : State, s.cpu.run = .stopped → s.config.stopMode = .immediateWake → wake s = s.setRun .running)
  ∧ (∀ s : State, s.cpu.run = .stopped → s.config.stopMode = .asHalt →
      wake s = if s.irq.enable &&& s.irq.request = 0 then s else s.setRun .running)
  ∧ (∀ s : State, (hostTurn s).irq.enable &&& (hostTurn s).irq.request ≠ 0 → s.atFetch.cpu.run = .running)
  ∧ (∀ s : State, s.goesOn = true → s.atFetch.cpu.run = .running →
      (∀ k : IrqSource, s.cpu.ime = true → ((hostTurn s).irq.enable &&& (hostTurn s).irq.request).getLsbD k.bit = true →
        (∀ j, j < k.bit → ((hostTurn s).irq.enable &&& (hostTurn s).irq.request).getLsbD j = false) →
        step s = finishStep (dispatchIrq k s.atFetch))
      ∧ (s.cpu.ime = false → step s = match runInstr s.atFetch with
          | .next t => finishStep t
          | .fault f => .fault f
          | .refused r => .refused r))
  ∧ ∀ s : State, s.goesOn = true → interruptTaken s.atFetch = none → s.atFetch.cpu.run ≠ .running →
      step s = finishStep { s.atFetch with cycles := 4 } ∧ s.atFetch = unmapBoot (hostTurn s)

/-- O9. HALT with IE = 0 never ends, and each step returns 4 (45_system.md R199): from a halted state with IE = 0 every step
answers a halted state with IE = 0 and the same CPU, and again one of which this statement speaks. The LCD is on, or
`LCD_OFF_MODEL` is IGNORED: otherwise the step is `Unsupported` (60_exceptions.md R231). -/
def Obligations.HaltWithoutEnabledSourceNeverEnds : Prop :=
  ∀ s : State, s.goesOn = true → s.cpu.run = .halted → s.irq.enable = 0 →
    (s.config.lcdOff = .ignored ∨ s.ppu.lcdc.getLsbD 7 = true) →
    ∃ t, step s = .next t ∧ t.cpu = s.cpu ∧ t.irq.enable = 0 ∧ t.goesOn = true ∧ t.config = s.config
      ∧ t.ppu.lcdc = s.ppu.lcdc ∧ t.cycles = 4

/-- O10. EI takes effect after one more instruction (45_system.md R202; 60_exceptions.md R207; 70_reset_and_hazards.md
R243): a step that runs EI with `ei_pending` clear leaves IME as it was, and a step that runs any instruction but DI and
RETI with `ei_pending` set leaves IME set and `ei_pending` clear. -/
def Obligations.EiTakesEffectOneInstructionLater : Prop :=
  ∀ s t : State, runInstr s = .next t →
    (fetched s = .ei → s.config.eiDelay = .one → s.cpu.eiPending = false →
      t.cpu.ime = s.cpu.ime ∧ t.cpu.eiPending = true)
    ∧ (s.cpu.eiPending = true → fetched s ≠ .di → fetched s ≠ .reti →
      t.cpu.ime = true ∧ t.cpu.eiPending = false)
    ∧ (s.cpu.eiPending = true → fetched s = .di → t.cpu.ime = false ∧ t.cpu.eiPending = false)

/-- O11. An invalid opcode ends the run (45_system.md R204; 10_state.md R20): the step that fetches one answers the fault with
the byte and its address, and a state in which a fault is recorded answers that fault at every step. That the state it leaves
is `faultedState`, which is the state at the fetch (the host's turn, the overlay check and the wake done) with the fault
recorded and PC at the byte, is the model's reading, not the spec's words (log entries 9 and 21, DEDUCED). -/
def Obligations.InvalidOpcodeEndsTheRun : Prop :=
  (∀ s : State, s.fetches = true →
    s.atFetch.readByte 0 s.atFetch.cpu.pc ∈
      ([0xD3, 0xDB, 0xDD, 0xE3, 0xE4, 0xEB, 0xEC, 0xED, 0xF4, 0xFC, 0xFD] : List Byte) →
    step s = .fault (.invalidOpcode (s.atFetch.readByte 0 s.atFetch.cpu.pc) s.atFetch.cpu.pc))
  ∧ (∀ (s : State) (f : InvalidOpcode), s.cpu.fault = some f → step s = .fault (.invalidOpcode f.byte f.addr))
  ∧ ∀ (s : State) (byte : Byte) (addr : Word), step (faultedState s byte addr) = .fault (.invalidOpcode byte addr)
    ∧ faultedState s byte addr =
      { s.atFetch with cpu := { s.atFetch.cpu with fault := some { byte := byte, addr := addr } } }
    ∧ s.atFetch.cpu.pc = s.cpu.pc

/-- O12. InvalidOpcode is the only synchronous exception (60_exceptions.md R217): a state without a recorded fault faults only
by fetching one of the 11 bytes, and the fault carries that byte and the PC it stands at. -/
def Obligations.OnlyInvalidBytesFault : Prop :=
  ∀ (s : State) (f : Fault), s.cpu.fault = none → step s = .fault f →
    s.fetches = true
    ∧ s.atFetch.readByte 0 s.atFetch.cpu.pc ∈
        ([0xD3, 0xDB, 0xDD, 0xE3, 0xE4, 0xEB, 0xEC, 0xED, 0xF4, 0xFC, 0xFD] : List Byte)
    ∧ f = .invalidOpcode (s.atFetch.readByte 0 s.atFetch.cpu.pc) s.atFetch.cpu.pc

/-- O13. Every step that goes on returns 4, 8, 12, 16, 20 or 24 cycles (60_exceptions.md R209, R221). -/
def Obligations.StepCyclesInRange : Prop :=
  ∀ s t : State, step s = .next t → t.cycles ∈ [4, 8, 12, 16, 20, 24]

/-- O14. Every step keeps the invariant: storage in canonical form under the keys of 10_state.md R31, `ERAM_SIZE` bytes of
ERAM among them, a cartridge image in canonical form, a bank register in 1..31 (R26), the PPU's position and draw in range
(R29, R226), the divider's accumulator below 256 (R25), `ei_pending` only while running (R207), and an overlay only with a
boot image (R27). -/
def Obligations.StepKeepsInvariant : Prop :=
  ∀ s t : State, s.Inv → step s = .next t → t.Inv

/-- O15. The state after reset meets the invariant, and so does every machine that a load gives, in both reset forms and for
every `POST_BOOT` and every choice of RAM cells (70_reset_and_hazards.md R238 to R241). Which elements `POST_BOOT` may vary is
the model's choice (log entry 23, DESIGN CHOICE). -/
def Obligations.ResetMeetsInvariant : Prop :=
  State.reset.Inv
  ∧ ∀ (config : Config) (post : PostBoot) (ram : Memory) (image : List Byte) (boot : Option (Vector Byte 256)) (s : State),
    load config post ram image boot = .ok s → s.Inv

/-- O16. No step writes the cartridge, the boot image or the parameters (10_state.md R31), and none maps the overlay again
(R27). -/
def Obligations.StepKeepsConfiguration : Prop :=
  ∀ s t : State, step s = .next t → t.fixedPart = s.fixedPart ∧ (s.bootMapped = false → t.bootMapped = false)

/-- O17. OAM DMA and the LCD's off state (60_exceptions.md R231, R232). A step that wrote 0xFF46 is refused after its
instruction; a step that ends with LCDC[7] = 0 is refused when `LCD_OFF_MODEL` is REFUSE; any other step ends with the advance
of the timer and then of the PPU by its cycles (R205). The model's own, not the spec's words: the write stores nothing and sets
the field `dmaWritten` (log entry 11, DEDUCED), LCDC[7] is read after the CPU step and before the devices (log entry 12,
DEDUCED), and a step that meets both refusals answers OAM DMA (log entry 22, DESIGN CHOICE). -/
def Obligations.DmaAndLcdRefusals : Prop :=
  (∀ (s : State) (v : Byte), s.config.dma = .refuse → busWrite s 0xFF46 v = { s with dmaWritten := true })
  ∧ (∀ (s : State) (joy : BitVec 4), busRead joy s 0xFF46 = Memory.read s.mem 0xFF46)
  ∧ (∀ s t : State, s.goesOn = true → cpuStep (hostTurn s) = .next t → t.dmaWritten = true → step s = .refused .oamDma)
  ∧ (∀ s t : State, s.goesOn = true → cpuStep (hostTurn s) = .next t → t.dmaWritten = false →
      s.config.lcdOff = .refuse → t.ppu.lcdc.getLsbD 7 = false → step s = .refused .lcdOff)
  ∧ ∀ s t : State, s.goesOn = true → cpuStep (hostTurn s) = .next t → t.dmaWritten = false →
      (s.config.lcdOff = .ignored ∨ t.ppu.lcdc.getLsbD 7 = true) →
      step s = .next { ppuAdvance t.cycles (timerAdvance t.cycles t) with draws := t.draws + 1 }

/-! ### Loads, stores and the stack -/

/-- O18. The loads of one register (40_load.md R87, R88, R90, R92, R93, R100, R102, R104): the register takes the source's
value, and nothing else changes. A byte of memory is read once, with the pointer's old value. -/
def Obligations.RegisterLoads : Prop :=
  (∀ (dst r : Reg) (s : State), ∃ t, exec (Instr.ldRegReg dst r) s = .next t ∧ RegWritten dst (s.reg r) 4 s t)
  ∧ (∀ (dst : Reg) (s : State), ∃ t, exec (Instr.ldRegMem dst) s = .next t ∧
      RegWritten dst (s.readData (cat s.cpu.h s.cpu.l)) 8 s t)
  ∧ (∀ (dst : Reg) (n : Byte) (s : State), ∃ t, exec (Instr.ldRegImm dst n) s = .next t ∧ RegWritten dst n 8 s t)
  ∧ (∀ s : State, ∃ t, exec .ld_A_atBC s = .next t ∧ RegWritten .a (s.readData (cat s.cpu.b s.cpu.c)) 8 s t)
  ∧ (∀ s : State, ∃ t, exec .ld_A_atDE s = .next t ∧ RegWritten .a (s.readData (cat s.cpu.d s.cpu.e)) 8 s t)
  ∧ (∀ (a : Word) (s : State), ∃ t, exec (.ld_A_ata16 a) s = .next t ∧ RegWritten .a (s.readData a) 16 s t)
  ∧ (∀ (n : Byte) (s : State), ∃ t, exec (.ldh_A_ata8 n) s = .next t ∧
      RegWritten .a (s.readData (BitVec.ofNat 16 (0xFF00 + n.toNat))) 12 s t)
  ∧ ∀ s : State, ∃ t, exec .ld_A_atC s = .next t ∧
      RegWritten .a (s.readData (BitVec.ofNat 16 (0xFF00 + s.cpu.c.toNat))) 8 s t

/-- O19. `LD A,(HL+)`, `LD A,(HL-)`, `LD (HL+),A` and `LD (HL-),A` (40_load.md R96 to R99): the access at the old HL, then HL
moves by one, modulo 2^16; nothing else changes. -/
def Obligations.AccumulatorAccessesThatMoveHl : Prop :=
  ∀ s : State,
    (∃ t, exec .ld_A_atHLinc s = .next t ∧
      CpuBecomes { s.cpu with a := s.readData s.hl, h := hi8 (s.hl + 1), l := lo8 (s.hl + 1) } 8 s t ∧ t.hl = s.hl + 1)
    ∧ (∃ t, exec .ld_A_atHLdec s = .next t ∧
      CpuBecomes { s.cpu with a := s.readData s.hl, h := hi8 (s.hl - 1), l := lo8 (s.hl - 1) } 8 s t ∧ t.hl = s.hl - 1)
    ∧ (∃ t, exec .ld_atHLinc_A s = .next t ∧
      StoreDone s.hl s.cpu.a { s.cpu with h := hi8 (s.hl + 1), l := lo8 (s.hl + 1) } 8 s t ∧ t.hl = s.hl + 1)
    ∧ ∃ t, exec .ld_atHLdec_A s = .next t ∧
      StoreDone s.hl s.cpu.a { s.cpu with h := hi8 (s.hl - 1), l := lo8 (s.hl - 1) } 8 s t ∧ t.hl = s.hl - 1

/-- O20. The stores of one byte, and of SP (40_load.md R89, R91, R94, R95, R101, R103, R105, R107): the byte goes to the bus
at the address the form gives, the CPU is unchanged, and every other byte is kept. -/
def Obligations.MemoryStores : Prop :=
  (∀ (r : Reg) (s : State), ∃ t, exec (Instr.ldMemReg r) s = .next t ∧ StoreDone s.hl (s.reg r) s.cpu 8 s t)
  ∧ (∀ (n : Byte) (s : State), ∃ t, exec (.ld_atHL_d8 n) s = .next t ∧ StoreDone s.hl n s.cpu 12 s t)
  ∧ (∀ s : State, ∃ t, exec .ld_atBC_A s = .next t ∧ StoreDone s.bc s.cpu.a s.cpu 8 s t)
  ∧ (∀ s : State, ∃ t, exec .ld_atDE_A s = .next t ∧ StoreDone s.de s.cpu.a s.cpu 8 s t)
  ∧ (∀ (a : Word) (s : State), ∃ t, exec (.ld_ata16_A a) s = .next t ∧ StoreDone a s.cpu.a s.cpu 16 s t)
  ∧ (∀ (n : Byte) (s : State), ∃ t, exec (.ldh_ata8_A n) s = .next t ∧
      StoreDone (BitVec.ofNat 16 (0xFF00 + n.toNat)) s.cpu.a s.cpu 12 s t)
  ∧ (∀ s : State, ∃ t, exec .ld_atC_A s = .next t ∧
      StoreDone (BitVec.ofNat 16 (0xFF00 + s.cpu.c.toNat)) s.cpu.a s.cpu 8 s t)
  ∧ ∀ (a : Word) (s : State), ∃ t, exec (.ld_ata16_SP a) s = .next t ∧ t.cpu = s.cpu ∧ t.cycles = 20 ∧
      TwoBytesStored a (lo8 s.cpu.sp) (a + 1) (hi8 s.cpu.sp) s t

/-- O21. `LD rr,d16` and `LD SP,HL` (40_load.md R106, R108): the pair takes the value, and nothing else changes. -/
def Obligations.PairLoads : Prop :=
  (∀ (p : R16) (v : Word) (s : State), ∃ t, exec (Instr.ldR16 p v) s = .next t ∧
    PairFlagsWritten p v s.cpu.flags 12 s t)
  ∧ ∀ s : State, ∃ t, exec .ld_SP_HL s = .next t ∧ PairFlagsWritten .sp s.hl s.cpu.flags 8 s t

/-- O22. PUSH (40_load.md R109, R110; 20_memory.md R61): SP falls by 2, the high byte goes to the old SP - 1 and the low byte
to the old SP - 2; PUSH AF pushes F with its low four bits zero. Nothing else changes. -/
def Obligations.PushEffect : Prop :=
  ∀ (p : R16stk) (s : State), ∃ t, exec (Instr.push p) s = .next t
    ∧ WordPushed (match p with
        | .bc => cat s.cpu.b s.cpu.c
        | .de => cat s.cpu.d s.cpu.e
        | .hl => cat s.cpu.h s.cpu.l
        | .af => cat s.cpu.a s.cpu.flags.toByte) s t
    ∧ s.cpu.flags.toByte &&& 0x0F = 0
    ∧ t.cpu.pc = s.cpu.pc ∧ SameControl s t ∧ t.cycles = 16

/-- O23. POP (40_load.md R111, R112): the low byte comes from SP and the high byte from SP + 1, and SP rises by 2. POP AF
writes the four flags from bits 7 to 4 of the low byte and discards bits 3 to 0. Nothing else changes. -/
def Obligations.PopEffect : Prop :=
  (∀ s : State, ∃ t, exec .pop_BC s = .next t ∧ CpuBecomes { s.cpu with
      b := s.readByte 4 (s.cpu.sp + 1), c := s.readByte 3 s.cpu.sp, sp := s.cpu.sp + 2 } 12 s t)
  ∧ (∀ s : State, ∃ t, exec .pop_DE s = .next t ∧ CpuBecomes { s.cpu with
      d := s.readByte 4 (s.cpu.sp + 1), e := s.readByte 3 s.cpu.sp, sp := s.cpu.sp + 2 } 12 s t)
  ∧ (∀ s : State, ∃ t, exec .pop_HL s = .next t ∧ CpuBecomes { s.cpu with
      h := s.readByte 4 (s.cpu.sp + 1), l := s.readByte 3 s.cpu.sp, sp := s.cpu.sp + 2 } 12 s t)
  ∧ ∀ s : State, ∃ t, exec .pop_AF s = .next t
      ∧ CpuBecomes { s.cpu with a := s.readByte 4 (s.cpu.sp + 1), flags := t.cpu.flags, sp := s.cpu.sp + 2 } 12 s t
      ∧ t.cpu.flags.toByte = s.readByte 3 s.cpu.sp &&& 0xF0

/-- O24. A POP after a PUSH gives back what was pushed, from one pair to another, when the stack lies in plain storage; and
SP is restored. -/
def Obligations.PushThenPop : Prop :=
  ∀ (p q : R16stk) (s : State), plainStorage (s.cpu.sp - 1) = true → plainStorage (s.cpu.sp - 2) = true →
    ∃ t u, exec (Instr.push p) s = .next t ∧ exec (Instr.pop q) t = .next u
      ∧ u.r16stk q = (if q = .af then s.r16stk p &&& 0xFFF0 else s.r16stk p)
      ∧ u.cpu.sp = s.cpu.sp ∧ u.cpu.pc = s.cpu.pc

/-! ### 8-bit arithmetic and logic -/

/-- O25. ADD and ADC in all three forms (41_alu8.md R114, R115, R122 to R127): the sum modulo 256, Z from it, N = 0, H and C
as the carries out of bit 3 and bit 7; nothing else changes. -/
def Obligations.AddAndAdc : Prop :=
  ForAluForms .add (fun i b n s => ∃ t, exec i s = .next t ∧
    RegFlagsWritten .a (BitVec.ofNat 8 (s.cpu.a.toNat + b.toNat))
      { z := decide ((s.cpu.a.toNat + b.toNat) % 256 = 0), n := false
        h := decide (s.cpu.a.toNat % 16 + b.toNat % 16 > 15), c := decide (s.cpu.a.toNat + b.toNat > 255) } n s t)
  ∧ ForAluForms .adc (fun i b n s => ∃ t, exec i s = .next t ∧
    RegFlagsWritten .a (BitVec.ofNat 8 (s.cpu.a.toNat + b.toNat + s.cpu.flags.c.toNat))
      { z := decide ((s.cpu.a.toNat + b.toNat + s.cpu.flags.c.toNat) % 256 = 0), n := false
        h := decide (s.cpu.a.toNat % 16 + b.toNat % 16 + s.cpu.flags.c.toNat > 15)
        c := decide (s.cpu.a.toNat + b.toNat + s.cpu.flags.c.toNat > 255) } n s t)

/-- O26. SUB, SBC and CP in all three forms (41_alu8.md R116, R117, R121, R128 to R133, R143 to R145): the difference modulo
256, Z from it, N = 1, H and C as the borrows; CP writes the flags of SUB alone. Nothing else changes. -/
def Obligations.SubSbcAndCp : Prop :=
  ForAluForms .sub (fun i b n s => ∃ t, exec i s = .next t ∧
    RegFlagsWritten .a (BitVec.ofInt 8 (s.cpu.a.toNat - b.toNat))
      { z := decide (((s.cpu.a.toNat : Int) - b.toNat) % 256 = 0), n := true
        h := decide (s.cpu.a.toNat % 16 < b.toNat % 16), c := decide (s.cpu.a.toNat < b.toNat) } n s t)
  ∧ ForAluForms .sbc (fun i b n s => ∃ t, exec i s = .next t ∧
    RegFlagsWritten .a (BitVec.ofInt 8 (s.cpu.a.toNat - b.toNat - s.cpu.flags.c.toNat))
      { z := decide (((s.cpu.a.toNat : Int) - b.toNat - s.cpu.flags.c.toNat) % 256 = 0), n := true
        h := decide (s.cpu.a.toNat % 16 < b.toNat % 16 + s.cpu.flags.c.toNat)
        c := decide (s.cpu.a.toNat < b.toNat + s.cpu.flags.c.toNat) } n s t)
  ∧ ForAluForms .cp (fun i b n s => ∃ t, exec i s = .next t ∧
    FlagsWritten
      { z := decide (((s.cpu.a.toNat : Int) - b.toNat) % 256 = 0), n := true
        h := decide (s.cpu.a.toNat % 16 < b.toNat % 16), c := decide (s.cpu.a.toNat < b.toNat) } n s t)

/-- O27. AND, XOR and OR in all three forms (41_alu8.md R118 to R120, R134 to R142): the bitwise result, Z from it, N = 0,
C = 0, H = 1 for AND and 0 for the others; nothing else changes. -/
def Obligations.AndXorAndOr : Prop :=
  ForAluForms .and (fun i b n s => ∃ t, exec i s = .next t ∧
    RegFlagsWritten .a (s.cpu.a &&& b) { z := decide (s.cpu.a &&& b = 0), n := false, h := true, c := false } n s t)
  ∧ ForAluForms .xor (fun i b n s => ∃ t, exec i s = .next t ∧
    RegFlagsWritten .a (s.cpu.a ^^^ b) { z := decide (s.cpu.a ^^^ b = 0), n := false, h := false, c := false } n s t)
  ∧ ForAluForms .or (fun i b n s => ∃ t, exec i s = .next t ∧
    RegFlagsWritten .a (s.cpu.a ||| b) { z := decide (s.cpu.a ||| b = 0), n := false, h := false, c := false } n s t)

/-- O28. INC and DEC of a register and of the byte at HL (41_alu8.md R146 to R149): the byte plus or minus 1 modulo 256, Z
from it, N, H from the low nibble, C unchanged; nothing else changes. -/
def Obligations.IncAndDecByte : Prop :=
  (∀ (r : Reg) (s : State), ∃ t, exec (Instr.incReg r) s = .next t ∧
    RegFlagsWritten r (BitVec.ofNat 8 ((s.reg r).toNat + 1))
      { z := decide (((s.reg r).toNat + 1) % 256 = 0), n := false, h := decide ((s.reg r).toNat % 16 = 15)
        c := s.cpu.flags.c } 4 s t)
  ∧ (∀ (r : Reg) (s : State), ∃ t, exec (Instr.decReg r) s = .next t ∧
    RegFlagsWritten r (BitVec.ofInt 8 ((s.reg r).toNat - 1))
      { z := decide ((s.reg r).toNat = 1), n := true, h := decide ((s.reg r).toNat % 16 = 0)
        c := s.cpu.flags.c } 4 s t)
  ∧ (∀ s : State, ∃ t, exec .inc_atHL s = .next t ∧
    StoreDone s.hl (BitVec.ofNat 8 ((s.readData s.hl).toNat + 1))
      { s.cpu with flags := { z := decide (((s.readData s.hl).toNat + 1) % 256 = 0), n := false
                              h := decide ((s.readData s.hl).toNat % 16 = 15), c := s.cpu.flags.c } } 12 s t)
  ∧ ∀ s : State, ∃ t, exec .dec_atHL s = .next t ∧
    StoreDone s.hl (BitVec.ofInt 8 ((s.readData s.hl).toNat - 1))
      { s.cpu with flags := { z := decide ((s.readData s.hl).toNat = 1), n := true
                              h := decide ((s.readData s.hl).toNat % 16 = 0), c := s.cpu.flags.c } } 12 s t

/-- O29. DAA (0x27, one byte; 41_alu8.md R150), as its pseudocode: A is adjusted by 0x60 and 0x06 up after an addition and down after a
subtraction; Z from the result, N unchanged, H = 0, C as computed; nothing else changes. -/
def Obligations.DaaEffect : Prop :=
  decode [0x27] = .ok .daa ∧ (∀ stop, Instr.daa.length stop = 1)
  ∧ ∀ s : State, ∃ t, exec .daa s = .next t ∧
    let a := s.cpu.a.toNat
    let f := s.cpu.flags
    let high := f.c || (!f.n && decide (a > 0x99))
    let low := f.h || (!f.n && decide (a % 16 > 9))
    let r := if f.n then (a + 512 - (if high then 0x60 else 0) - (if low then 0x06 else 0)) % 256
             else (a + (if high then 0x60 else 0) + (if low then 0x06 else 0)) % 256
    RegFlagsWritten .a (BitVec.ofNat 8 r) { z := decide (r = 0), n := f.n, h := false, c := high } 4 s t

/-- O30. DAA corrects the accumulator after BCD arithmetic (41_alu8.md R150): for two-digit BCD numbers x and y, ADD then DAA
leaves the digits of x + y modulo 100 with the decimal carry in C, and SUB then DAA those of x - y modulo 100 with the
decimal borrow in C. -/
def Obligations.DaaCorrectsBcdArithmetic : Prop :=
  ∀ (x y : Nat) (s : State), x < 100 → y < 100 → s.cpu.a = BitVec.ofNat 8 (x / 10 * 16 + x % 10) →
    (∃ t u, exec (.add_A_d8 (BitVec.ofNat 8 (y / 10 * 16 + y % 10))) s = .next t ∧ exec .daa t = .next u
      ∧ u.cpu.a.toNat = (x + y) % 100 / 10 * 16 + (x + y) % 10 ∧ u.cpu.flags.c = decide (x + y ≥ 100)
      ∧ u.cpu.flags.z = decide ((x + y) % 100 = 0))
    ∧ ∃ t u, exec (.sub_A_d8 (BitVec.ofNat 8 (y / 10 * 16 + y % 10))) s = .next t ∧ exec .daa t = .next u
      ∧ u.cpu.a.toNat = (x + 100 - y) % 100 / 10 * 16 + (x + 100 - y) % 10 ∧ u.cpu.flags.c = decide (x < y)
      ∧ u.cpu.flags.z = decide (x = y)

/-- O31. CPL (0x2F), SCF (0x37) and CCF (0x3F), one byte each (41_alu8.md R151 to R153): the accumulator's complement with N = H = 1; C set; C complemented; the
other flags as the rules say, and nothing else changes. -/
def Obligations.CplScfAndCcf : Prop :=
  decode [0x2F] = .ok .cpl ∧ decode [0x37] = .ok .scf ∧ decode [0x3F] = .ok .ccf
  ∧ (∀ stop, Instr.cpl.length stop = 1 ∧ Instr.scf.length stop = 1 ∧ Instr.ccf.length stop = 1)
  ∧ ∀ s : State,
    (∃ t, exec .cpl s = .next t ∧ RegFlagsWritten .a (~~~s.cpu.a) { s.cpu.flags with n := true, h := true } 4 s t)
    ∧ (∃ t, exec .scf s = .next t ∧ FlagsWritten { z := s.cpu.flags.z, n := false, h := false, c := true } 4 s t)
    ∧ ∃ t, exec .ccf s = .next t ∧
        FlagsWritten { z := s.cpu.flags.z, n := false, h := false, c := !s.cpu.flags.c } 4 s t

/-! ### 16-bit arithmetic -/

/-- O32. INC rr, DEC rr and ADD HL,rr (42_alu16.md R154 to R156): modulo 2^16; INC and DEC write no flag; ADD leaves Z, clears
N, and takes H from bit 11 and C from bit 15. Nothing else changes. -/
def Obligations.PairArithmetic : Prop :=
  (∀ (p : R16) (s : State), ∃ t, exec (Instr.incR16 p) s = .next t ∧
    PairFlagsWritten p (BitVec.ofNat 16 ((s.r16 p).toNat + 1)) s.cpu.flags 8 s t)
  ∧ (∀ (p : R16) (s : State), ∃ t, exec (Instr.decR16 p) s = .next t ∧
    PairFlagsWritten p (BitVec.ofInt 16 ((s.r16 p).toNat - 1)) s.cpu.flags 8 s t)
  ∧ ∀ (p : R16) (s : State), ∃ t, exec (Instr.addHl p) s = .next t ∧
    PairFlagsWritten .hl (BitVec.ofNat 16 (s.hl.toNat + (s.r16 p).toNat))
      { z := s.cpu.flags.z, n := false, h := decide (s.hl.toNat % 4096 + (s.r16 p).toNat % 4096 > 4095)
        c := decide (s.hl.toNat + (s.r16 p).toNat > 65535) } 8 s t

/-- O33. `ADD SP,e8` (0xE8) and `LD HL,SP+e8` (0xF8), two bytes each (42_alu16.md R157, R158): the signed byte is added modulo 2^16; Z = N = 0, and H and C
come from the unsigned addition of the low byte of SP and the raw byte. Nothing else changes. -/
def Obligations.SpPlusOffset : Prop :=
  ∀ (e : Byte) (s : State),
    decode [0xE8, e] = .ok (.add_SP_e8 e) ∧ decode [0xF8, e] = .ok (.ld_HL_SPe8 e)
    ∧ (∀ stop, (Instr.add_SP_e8 e).length stop = 2 ∧ (Instr.ld_HL_SPe8 e).length stop = 2) ∧
    (∃ t, exec (.add_SP_e8 e) s = .next t ∧
      PairFlagsWritten .sp (BitVec.ofInt 16 (s.cpu.sp.toNat + e.toInt))
        { z := false, n := false, h := decide (s.cpu.sp.toNat % 16 + e.toNat % 16 > 15)
          c := decide (s.cpu.sp.toNat % 256 + e.toNat > 255) } 16 s t)
    ∧ ∃ t, exec (.ld_HL_SPe8 e) s = .next t ∧
      PairFlagsWritten .hl (BitVec.ofInt 16 (s.cpu.sp.toNat + e.toInt))
        { z := false, n := false, h := decide (s.cpu.sp.toNat % 16 + e.toNat % 16 > 15)
          c := decide (s.cpu.sp.toNat % 256 + e.toNat > 255) } 12 s t

/-! ### Rotates, shifts and bits -/

/-- O34. RLCA (0x07), RRCA (0x0F), RLA (0x17) and RRA (0x1F), one byte each (43_rotate_shift_bit.md R159 to R162): the accumulator is rotated, C takes the bit shifted
out, and Z, N and H are 0 whatever the result; nothing else changes. -/
def Obligations.AccumulatorRotates : Prop :=
  decode [0x07] = .ok .rlca ∧ decode [0x0F] = .ok .rrca ∧ decode [0x17] = .ok .rla ∧ decode [0x1F] = .ok .rra
  ∧ (∀ stop, Instr.rlca.length stop = 1 ∧ Instr.rrca.length stop = 1 ∧ Instr.rla.length stop = 1
      ∧ Instr.rra.length stop = 1)
  ∧ ∀ s : State,
    (∃ t, exec .rlca s = .next t ∧ RegFlagsWritten .a (s.cpu.a.rotateLeft 1)
      { z := false, n := false, h := false, c := s.cpu.a.getLsbD 7 } 4 s t)
    ∧ (∃ t, exec .rrca s = .next t ∧ RegFlagsWritten .a (s.cpu.a.rotateRight 1)
      { z := false, n := false, h := false, c := s.cpu.a.getLsbD 0 } 4 s t)
    ∧ (∃ t, exec .rla s = .next t ∧ RegFlagsWritten .a (s.cpu.a.extractLsb' 0 7 ++ BitVec.ofBool s.cpu.flags.c)
      { z := false, n := false, h := false, c := s.cpu.a.getLsbD 7 } 4 s t)
    ∧ ∃ t, exec .rra s = .next t ∧ RegFlagsWritten .a (BitVec.ofBool s.cpu.flags.c ++ s.cpu.a.extractLsb' 1 7)
      { z := false, n := false, h := false, c := s.cpu.a.getLsbD 0 } 4 s t

/-- O35. The CB-table rotates and shifts of a register (43_rotate_shift_bit.md R164, R166, R168, R170, R172, R174, R176,
R178): the register takes the result, Z comes from it, N = H = 0, and C is the bit shifted out, 0 for SWAP; nothing else
changes. -/
def Obligations.CbRotatesOfRegister : Prop :=
  ∀ (r : Reg) (s : State),
    (∃ t, exec (Instr.rotReg .rlc r) s = .next t ∧ RegFlagsWritten r ((s.reg r).rotateLeft 1)
      (shiftFlags ((s.reg r).rotateLeft 1) ((s.reg r).getLsbD 7)) 8 s t)
    ∧ (∃ t, exec (Instr.rotReg .rrc r) s = .next t ∧ RegFlagsWritten r ((s.reg r).rotateRight 1)
      (shiftFlags ((s.reg r).rotateRight 1) ((s.reg r).getLsbD 0)) 8 s t)
    ∧ (∃ t, exec (Instr.rotReg .rl r) s = .next t ∧
      RegFlagsWritten r ((s.reg r).extractLsb' 0 7 ++ BitVec.ofBool s.cpu.flags.c)
        (shiftFlags ((s.reg r).extractLsb' 0 7 ++ BitVec.ofBool s.cpu.flags.c) ((s.reg r).getLsbD 7)) 8 s t)
    ∧ (∃ t, exec (Instr.rotReg .rr r) s = .next t ∧
      RegFlagsWritten r (BitVec.ofBool s.cpu.flags.c ++ (s.reg r).extractLsb' 1 7)
        (shiftFlags (BitVec.ofBool s.cpu.flags.c ++ (s.reg r).extractLsb' 1 7) ((s.reg r).getLsbD 0)) 8 s t)
    ∧ (∃ t, exec (Instr.rotReg .sla r) s = .next t ∧ RegFlagsWritten r ((s.reg r).extractLsb' 0 7 ++ 0#1)
      (shiftFlags ((s.reg r).extractLsb' 0 7 ++ 0#1) ((s.reg r).getLsbD 7)) 8 s t)
    ∧ (∃ t, exec (Instr.rotReg .sra r) s = .next t ∧ RegFlagsWritten r ((s.reg r).sshiftRight 1)
      (shiftFlags ((s.reg r).sshiftRight 1) ((s.reg r).getLsbD 0)) 8 s t)
    ∧ (∃ t, exec (Instr.rotReg .swap r) s = .next t ∧
      RegFlagsWritten r ((s.reg r).extractLsb' 0 4 ++ (s.reg r).extractLsb' 4 4)
        (shiftFlags ((s.reg r).extractLsb' 0 4 ++ (s.reg r).extractLsb' 4 4) false) 8 s t)
    ∧ ∃ t, exec (Instr.rotReg .srl r) s = .next t ∧ RegFlagsWritten r (0#1 ++ (s.reg r).extractLsb' 1 7)
      (shiftFlags (0#1 ++ (s.reg r).extractLsb' 1 7) ((s.reg r).getLsbD 0)) 8 s t

/-- O36. The CB-table rotates and shifts of the byte at HL (43_rotate_shift_bit.md R165, R167, R169, R171, R173, R175, R177,
R179): one read and one write of the result, with the flags of the register forms; nothing else changes. -/
def Obligations.CbRotatesOfMemory : Prop :=
  ∀ s : State,
    let v := s.readData s.hl
    let c := s.cpu.flags.c
    let stores := fun (op : RotOp) (r : Byte) (out : Bool) =>
      ∃ t, exec (Instr.rotMem op) s = .next t ∧ StoreDone s.hl r { s.cpu with flags := shiftFlags r out } 16 s t
    stores .rlc (v.rotateLeft 1) (v.getLsbD 7)
    ∧ stores .rrc (v.rotateRight 1) (v.getLsbD 0)
    ∧ stores .rl (v.extractLsb' 0 7 ++ BitVec.ofBool c) (v.getLsbD 7)
    ∧ stores .rr (BitVec.ofBool c ++ v.extractLsb' 1 7) (v.getLsbD 0)
    ∧ stores .sla (v.extractLsb' 0 7 ++ 0#1) (v.getLsbD 7)
    ∧ stores .sra (v.sshiftRight 1) (v.getLsbD 0)
    ∧ stores .swap (v.extractLsb' 0 4 ++ v.extractLsb' 4 4) false
    ∧ stores .srl (0#1 ++ v.extractLsb' 1 7) (v.getLsbD 0)

/-- O37. BIT (43_rotate_shift_bit.md R180, R181): Z is the complement of the bit, N = 0, H = 1, C unchanged; nothing else
changes, memory included. -/
def Obligations.BitTest : Prop :=
  (∀ (y : Oct) (r : Reg) (s : State), ∃ t, exec (Instr.bitReg y r) s = .next t ∧
    FlagsWritten { z := !((s.reg r).getLsbD y.toNat), n := false, h := true, c := s.cpu.flags.c } 8 s t)
  ∧ ∀ (y : Oct) (s : State), ∃ t, exec (Instr.bitMem y) s = .next t ∧
    FlagsWritten { z := !((s.readData s.hl).getLsbD y.toNat), n := false, h := true, c := s.cpu.flags.c } 12 s t

/-- O38. RES and SET (43_rotate_shift_bit.md R182 to R185): the one bit is cleared or set, the other seven stay, and the byte
goes back to the register or, by one write that always happens, to the address HL; no flag changes, nor anything else. -/
def Obligations.ResAndSet : Prop :=
  (∀ (y : Oct) (r : Reg) (s : State), ∃ w,
    (∃ t, exec (Instr.resReg y r) s = .next t ∧ RegWritten r w 8 s t)
    ∧ ∀ j, j < 8 → w.getLsbD j = if j = y.toNat then false else (s.reg r).getLsbD j)
  ∧ (∀ (y : Oct) (r : Reg) (s : State), ∃ w,
    (∃ t, exec (Instr.setReg y r) s = .next t ∧ RegWritten r w 8 s t)
    ∧ ∀ j, j < 8 → w.getLsbD j = if j = y.toNat then true else (s.reg r).getLsbD j)
  ∧ (∀ (y : Oct) (s : State), ∃ w,
    (∃ t, exec (Instr.resMem y) s = .next t ∧ StoreDone s.hl w s.cpu 16 s t)
    ∧ ∀ j, j < 8 → w.getLsbD j = if j = y.toNat then false else (s.readData s.hl).getLsbD j)
  ∧ ∀ (y : Oct) (s : State), ∃ w,
    (∃ t, exec (Instr.setMem y) s = .next t ∧ StoreDone s.hl w s.cpu 16 s t)
    ∧ ∀ j, j < 8 → w.getLsbD j = if j = y.toNat then true else (s.readData s.hl).getLsbD j

/-! ### Control transfer -/

/-- O39. The jumps (44_control.md R186 to R190; 10_state.md R16): PC goes to the target, or stays at the next instruction when
the condition does not hold, with the cycles of each case; nothing else changes. -/
def Obligations.Jumps : Prop :=
  (∀ s : State, s.cond .nz = !s.cpu.flags.z ∧ s.cond .z = s.cpu.flags.z ∧ s.cond .nc = !s.cpu.flags.c
    ∧ s.cond .c = s.cpu.flags.c)
  ∧ (∀ (a : Word) (s : State), ∃ t, exec (.jp_a16 a) s = .next t ∧ PcWritten a 16 s t)
  ∧ (∀ s : State, ∃ t, exec .jp_HL s = .next t ∧ PcWritten s.hl 4 s t)
  ∧ (∀ (k : Cond) (a : Word) (s : State), ∃ t, exec (Instr.jpCond k a) s = .next t ∧
      if s.cond k = true then PcWritten a 16 s t else PcWritten s.cpu.pc 12 s t)
  ∧ (∀ (e : Byte) (s : State), ∃ t, exec (.jr_e8 e) s = .next t ∧
      PcWritten (BitVec.ofInt 16 (s.cpu.pc.toNat + e.toInt)) 12 s t)
  ∧ ∀ (k : Cond) (e : Byte) (s : State), ∃ t, exec (Instr.jrCond k e) s = .next t ∧
      if s.cond k = true then PcWritten (BitVec.ofInt 16 (s.cpu.pc.toNat + e.toInt)) 12 s t
      else PcWritten s.cpu.pc 8 s t

/-- O40. CALL, CALL cc and RST (44_control.md R191, R192, R196): the address of the next instruction is pushed and PC goes to
the target, or nothing changes when the condition does not hold. -/
def Obligations.CallsAndRestarts : Prop :=
  (∀ (a : Word) (s : State), ∃ t, exec (.call_a16 a) s = .next t ∧
    WordPushed s.cpu.pc s t ∧ t.cpu.pc = a ∧ SameControl s t ∧ t.cycles = 24)
  ∧ (∀ (k : Cond) (a : Word) (s : State), s.cond k = true → ∃ t, exec (Instr.callCond k a) s = .next t ∧
    WordPushed s.cpu.pc s t ∧ t.cpu.pc = a ∧ SameControl s t ∧ t.cycles = 24)
  ∧ (∀ (k : Cond) (a : Word) (s : State), s.cond k = false → ∃ t, exec (Instr.callCond k a) s = .next t ∧
    CpuBecomes s.cpu 12 s t)
  ∧ ∀ (y : Oct) (s : State), ∃ t, exec (Instr.rst y) s = .next t ∧
    WordPushed s.cpu.pc s t ∧ t.cpu.pc = BitVec.ofNat 16 (8 * y.toNat) ∧ SameControl s t ∧ t.cycles = 16

/-- O41. RET, RET cc and RETI (44_control.md R193 to R195): PC takes the word at the top of the stack, and SP rises by 2, or
nothing changes when the condition does not hold; RETI also sets IME at once and clears `ei_pending`. -/
def Obligations.Returns : Prop :=
  (∀ s : State, ∃ t, exec .ret s = .next t ∧
    CpuBecomes { s.cpu with pc := topOfStack s, sp := s.cpu.sp + 2 } 16 s t)
  ∧ (∀ (k : Cond) (s : State), s.cond k = true → ∃ t, exec (Instr.retCond k) s = .next t ∧
    CpuBecomes { s.cpu with pc := topOfStack s, sp := s.cpu.sp + 2 } 20 s t)
  ∧ (∀ (k : Cond) (s : State), s.cond k = false → ∃ t, exec (Instr.retCond k) s = .next t ∧ CpuBecomes s.cpu 8 s t)
  ∧ ∀ s : State, ∃ t, exec .reti s = .next t ∧
    CpuBecomes { s.cpu with pc := topOfStack s, sp := s.cpu.sp + 2, ime := true, eiPending := false } 16 s t

/-- O42. A RET after a CALL or an RST, or a RETI after an interrupt dispatch, comes back to the next instruction with SP as
it was, when the stack lies in plain storage. -/
def Obligations.CallThenReturn : Prop :=
  ∀ s : State, plainStorage (s.cpu.sp - 1) = true → plainStorage (s.cpu.sp - 2) = true →
    (∀ a, ∃ t u, exec (.call_a16 a) s = .next t ∧ exec .ret t = .next u ∧ u.cpu = s.cpu)
    ∧ (∀ y, ∃ t u, exec (Instr.rst y) s = .next t ∧ exec .ret t = .next u ∧ u.cpu = s.cpu)
    ∧ ∀ k, ∃ u, exec .reti (dispatchIrq k s) = .next u ∧ u.cpu = { s.cpu with ime := true, eiPending := false }

/-! ### System instructions -/

/-- O43. NOP (0x00), DI (0xF3), EI (0xFB), HALT (0x76) and STOP (0x10) (45_system.md R198 to R202), with the PC that the step
gives them: each changes only what its rule names, in 4 cycles. STOP is `STOP_LENGTH` bytes long, the others one. -/
def Obligations.SystemInstructions : Prop :=
  decode [0x00] = .ok .nop ∧ decode [0xF3] = .ok .di ∧ decode [0xFB] = .ok .ei ∧ decode [0x76] = .ok .halt
  ∧ (∀ b : Byte, decode [0x10, b] = .ok .stop)
  ∧ (∀ stop, Instr.nop.length stop = 1 ∧ Instr.di.length stop = 1 ∧ Instr.ei.length stop = 1
      ∧ Instr.halt.length stop = 1)
  ∧ Instr.stop.length .one = 1 ∧ Instr.stop.length .two = 2
  ∧ ∀ s : State,
    (∃ t, exec .nop s = .next t ∧ CpuBecomes s.cpu 4 s t)
    ∧ (∃ t, exec .halt s = .next t ∧ CpuBecomes { s.cpu with run := .halted } 4 s t)
    ∧ (∃ t, exec .stop s = .next t ∧ CpuBecomes { s.cpu with run := .stopped } 4 s t)
    ∧ (∃ t, exec .di s = .next t ∧ CpuBecomes { s.cpu with ime := false, eiPending := false } 4 s t)
    ∧ (s.config.eiDelay = .one → ∃ t, exec .ei s = .next t ∧ CpuBecomes { s.cpu with eiPending := true } 4 s t)
    ∧ (s.config.eiDelay = .zero → ∃ t, exec .ei s = .next t ∧ CpuBecomes { s.cpu with ime := true } 4 s t)

/-- O44. The prefix byte (45_system.md R203): the second byte is fetched from PC and its CB-table rule runs, in one step; the
pair decodes to that rule's instruction, is 2 bytes long, and always completes. -/
def Obligations.PrefixRunsTheCbTable : Prop :=
  (∀ s : State, exec .prefixCb s = exec (decodeCb (s.readByte 1 s.cpu.pc)) (s.setPc (s.cpu.pc + 1)))
  ∧ (∀ s : State, ∃ t, exec .prefixCb s = .next t ∧ t.cpu.pc = s.cpu.pc + 1)
  ∧ ∀ (b b2 : Byte) (stop : StopLength), decodeWindow 0xCB b b2 = decodeCb b ∧ (decodeCb b).length stop = 2
      ∧ decodeCb b ≠ .prefixCb

/-! ### The bus -/

/-- O45. VRAM, WRAM, OAM and HRAM are plain storage in every state, whatever the PPU's mode, and the echo window is work RAM
(20_memory.md R50, R51, R52, R56). -/
def Obligations.PlainStorageReadsBack : Prop :=
  (∀ a : Word, plainStorage a = true ↔ (0x8000 ≤ a.toNat ∧ a.toNat ≤ 0x9FFF) ∨ (0xC000 ≤ a.toNat ∧ a.toNat ≤ 0xFE9F)
    ∨ (0xFF80 ≤ a.toNat ∧ a.toNat ≤ 0xFFFE))
  ∧ (∀ (s : State) (joy : BitVec 4) (a : Word) (v : Byte), plainStorage a = true →
      busRead joy (busWrite s a v) a = v ∧ BytesKept [a] s (busWrite s a v))
  ∧ ∀ (s : State) (joy : BitVec 4) (a : Word) (v : Byte), 0xE000 ≤ a.toNat → a.toNat ≤ 0xFDFF →
      busRead joy s a = busRead joy s (a - 0x2000) ∧ busWrite s a v = busWrite s (a - 0x2000) v

/-- O46. The four command windows of the MBC1 (20_memory.md R43 to R46), and the one warning (60_exceptions.md R219): a write
below 0x8000 sets its one field, counts a warning exactly when it stores `bank_mode` = 1, and changes nothing else; on a
ROM-only cartridge it changes nothing (R42). -/
def Obligations.BankCommands : Prop :=
  ∀ (s : State) (a : Word) (v : Byte), a.toNat ≤ 0x7FFF →
    (s.cart.kind = .romOnly → busWrite s a v = s)
    ∧ (s.cart.kind = .mbc1 → a.toNat ≤ 0x1FFF →
        busWrite s a v = { s with mbc := { s.mbc with ramEnable := decide (v.toNat % 16 = 10) } })
    ∧ (s.cart.kind = .mbc1 → 0x2000 ≤ a.toNat → a.toNat ≤ 0x3FFF →
        busWrite s a v = { s with mbc := { s.mbc with
          romLo5 := BitVec.ofNat 5 (if v.toNat % 32 = 0 then 1 else v.toNat % 32) } })
    ∧ (s.cart.kind = .mbc1 → 0x4000 ≤ a.toNat → a.toNat ≤ 0x5FFF →
        busWrite s a v = { s with mbc := { s.mbc with bank2 := BitVec.ofNat 2 v.toNat } })
    ∧ (s.cart.kind = .mbc1 → 0x6000 ≤ a.toNat →
        busWrite s a v = { s with mbc := { s.mbc with bankMode := decide (v.toNat % 2 = 1) }
                                  warnings := s.warnings + v.toNat % 2 })

/-- O47. Reads of the ROM region with no overlay in the way (20_memory.md R42, R47, R48): a ROM-only image is read as it
stands; the MBC1 shows bank 0 below 0x4000 and the bank `bank2 * 32 + rom_lo5` above; an offset past the image reads 0xFF.
With `bank2` = 0, after a write of n in 1..31 to the ROM-bank-select window the switchable window shows the offsets
`n * 0x4000 + (a - 0x4000)`, and writing 0 behaves as writing 1. -/
def Obligations.RomReads : Prop :=
  ∀ (s : State) (joy : BitVec 4) (a : Word), a.toNat ≤ 0x7FFF → (s.bootMapped = false ∨ 0x0100 ≤ a.toNat) →
    (s.cart.kind = .romOnly → busRead joy s a = s.cart.byte a.toNat)
    ∧ (s.cart.kind = .mbc1 → a.toNat ≤ 0x3FFF → busRead joy s a = s.cart.byte a.toNat)
    ∧ (s.cart.kind = .mbc1 → 0x4000 ≤ a.toNat →
        busRead joy s a = s.cart.byte ((s.mbc.bank2.toNat * 32 + s.mbc.romLo5.toNat) * 0x4000 + (a.toNat - 0x4000)))
    ∧ (∀ o, s.cart.size ≤ o → s.cart.byte o = 0xFF)
    ∧ (∀ (b : Word) (n : Byte), s.cart.kind = .mbc1 → 0x4000 ≤ a.toNat → 0x2000 ≤ b.toNat → b.toNat ≤ 0x3FFF →
        n.toNat < 32 → s.mbc.bank2 = 0 →
        busRead joy (busWrite s b n) a = s.cart.byte ((max 1 n.toNat) * 0x4000 + (a.toNat - 0x4000)))

/-- O48. External RAM (20_memory.md R49, R42): it reads 0xFF and ignores writes on a ROM-only cartridge, when disabled, and
past `ERAM_SIZE`; otherwise it reads back what was stored, in both banking modes and whatever the bank fields. -/
def Obligations.ExternalRam : Prop :=
  ∀ (s : State) (joy : BitVec 4) (a : Word) (v : Byte), 0xA000 ≤ a.toNat → a.toNat ≤ 0xBFFF →
    ((s.cart.kind = .romOnly ∨ s.mbc.ramEnable = false ∨ s.cart.eramSize ≤ a.toNat - 0xA000) →
      busRead joy s a = 0xFF ∧ busWrite s a v = s)
    ∧ (s.cart.kind = .mbc1 → s.mbc.ramEnable = true → a.toNat - 0xA000 < s.cart.eramSize →
      busRead joy (busWrite s a v) a = v ∧ BytesKept [a] s (busWrite s a v)
      ∧ ∀ m : Mbc, m.ramEnable = true → busRead joy { s with mbc := m } a = busRead joy s a)

/-- O49. IE at 0xFFFF and IF at 0xFF0F (10_state.md R21, R22; 20_memory.md R57): a write stores bits 4:0 and nothing else
changes; a read gives them with the parameters `IE_HI` and `IF_HI` above. -/
def Obligations.InterruptRegistersOnBus : Prop :=
  ∀ (s : State) (joy : BitVec 4) (v : Byte),
    busWrite s 0xFFFF v = { s with irq := { s.irq with enable := BitVec.ofNat 5 v.toNat } }
    ∧ (busRead joy s 0xFFFF).toNat = s.config.ieHi.toNat * 32 + s.irq.enable.toNat
    ∧ busWrite s 0xFF0F v = { s with irq := { s.irq with request := BitVec.ofNat 5 v.toNat } }
    ∧ (busRead joy s 0xFF0F).toNat = s.config.ifHi.toNat * 32 + s.irq.request.toNat

/-- O50. The timer's registers (10_state.md R24; 60_exceptions.md R225): any write of DIV clears DIV and its accumulator; TIMA
and TMA take the byte; TAC takes bits 2:0 and reads 1 above, and its write leaves `tima_acc`; nothing else changes. -/
def Obligations.TimerRegistersOnBus : Prop :=
  ∀ (s : State) (joy : BitVec 4) (v : Byte),
    busWrite s 0xFF04 v = { s with timer := { s.timer with div := 0, divAcc := 0 } }
    ∧ busWrite s 0xFF05 v = { s with timer := { s.timer with tima := v } }
    ∧ busWrite s 0xFF06 v = { s with timer := { s.timer with tma := v } }
    ∧ busWrite s 0xFF07 v = { s with timer := { s.timer with tac := BitVec.ofNat 3 v.toNat } }
    ∧ busRead joy s 0xFF04 = s.timer.div ∧ busRead joy s 0xFF05 = s.timer.tima ∧ busRead joy s 0xFF06 = s.timer.tma
    ∧ (busRead joy s 0xFF07).toNat = 0xF8 + s.timer.tac.toNat

/-- O51. The PPU's registers (60_exceptions.md R230; 10_state.md R28): STAT stores bits 6:3 and reads them with 1 above, the
coincidence and the mode's number below (0 H-blank, 1 V-blank, 2 OAM-search, 3 pixel-transfer); LY reads the line and ignores
writes; the others store the byte and read it back. -/
def Obligations.PpuRegistersOnBus : Prop :=
  (PpuMode.hblank.code = 0 ∧ PpuMode.vblank.code = 1 ∧ PpuMode.oamSearch.code = 2 ∧ PpuMode.transfer.code = 3)
  ∧ ∀ (s : State) (joy : BitVec 4) (v : Byte),
    busWrite s 0xFF41 v = { s with ppu := { s.ppu with statEnable := BitVec.ofNat 4 (v.toNat / 8) } }
    ∧ (busRead joy s 0xFF41).toNat = 0x80 + s.ppu.statEnable.toNat * 8 + s.ppu.lycMatch.toNat * 4 + s.ppu.mode.code.toNat
    ∧ busWrite s 0xFF44 v = s ∧ busRead joy s 0xFF44 = s.ppu.ly
    ∧ busWrite s 0xFF40 v = { s with ppu := { s.ppu with lcdc := v } } ∧ busRead joy s 0xFF40 = s.ppu.lcdc
    ∧ busWrite s 0xFF42 v = { s with ppu := { s.ppu with scy := v } } ∧ busRead joy s 0xFF42 = s.ppu.scy
    ∧ busWrite s 0xFF43 v = { s with ppu := { s.ppu with scx := v } } ∧ busRead joy s 0xFF43 = s.ppu.scx
    ∧ busWrite s 0xFF45 v = { s with ppu := { s.ppu with lyc := v } } ∧ busRead joy s 0xFF45 = s.ppu.lyc
    ∧ busWrite s 0xFF47 v = { s with ppu := { s.ppu with bgp := v } } ∧ busRead joy s 0xFF47 = s.ppu.bgp
    ∧ busWrite s 0xFF48 v = { s with ppu := { s.ppu with obp0 := v } } ∧ busRead joy s 0xFF48 = s.ppu.obp0
    ∧ busWrite s 0xFF49 v = { s with ppu := { s.ppu with obp1 := v } } ∧ busRead joy s 0xFF49 = s.ppu.obp1
    ∧ busWrite s 0xFF4A v = { s with ppu := { s.ppu with wy := v } } ∧ busRead joy s 0xFF4A = s.ppu.wy
    ∧ busWrite s 0xFF4B v = { s with ppu := { s.ppu with wx := v } } ∧ busRead joy s 0xFF4B = s.ppu.wx

/-- O52. P1, the unassigned I/O addresses and the unmapped addresses (10_state.md R30; 20_memory.md R53, R55): P1 stores its
select lines and reads the host's nibble below them; an unassigned address is a plain cell under STORE and reads 0xFF and
ignores writes under OPEN_FF; 0xFEA0 to 0xFEFF read 0xFF and ignore writes. Between two steps the host may change the joypad
(60_exceptions.md R233), which requests its interrupt and nothing else; the schedule of such changes is the model's own field
(log entry 10). -/
def Obligations.JoypadUnassignedAndUnmapped : Prop :=
  (∀ (s : State) (joy : BitVec 4) (v : Byte), busWrite s 0xFF00 v = { s with p1Select := BitVec.ofNat 2 (v.toNat / 16) }
    ∧ (busRead joy s 0xFF00).toNat = 0xC0 + s.p1Select.toNat * 16 + joy.toNat)
  ∧ (∀ (s : State) (joy : BitVec 4) (a : Word) (v : Byte),
      (a ∈ ([0xFF01, 0xFF02, 0xFF03] : List Word) ∨ (0xFF08 ≤ a.toNat ∧ a.toNat ≤ 0xFF0E)
        ∨ (0xFF10 ≤ a.toNat ∧ a.toNat ≤ 0xFF3F) ∨ (0xFF4C ≤ a.toNat ∧ a.toNat ≤ 0xFF7F)) →
      (s.config.ioUnassigned = .store → busRead joy (busWrite s a v) a = v ∧ BytesKept [a] s (busWrite s a v))
      ∧ (s.config.ioUnassigned = .openFF → busRead joy s a = 0xFF ∧ busWrite s a v = s))
  ∧ (∀ (s : State) (joy : BitVec 4) (a : Word) (v : Byte), 0xFEA0 ≤ a.toNat → a.toNat ≤ 0xFEFF →
      busRead joy s a = 0xFF ∧ busWrite s a v = s)
  ∧ (∀ (s : State) (rest : List Bool), s.joypadEvents = true :: rest →
      hostTurn s = { s with joypadEvents := rest, irq := { s.irq with request := s.irq.request ||| 0b10000 } })
  ∧ (∀ (s : State) (rest : List Bool), s.joypadEvents = false :: rest → hostTurn s = { s with joypadEvents := rest })
  ∧ ∀ s : State, s.joypadEvents = [] → hostTurn s = s

/-- O53. The boot overlay (20_memory.md R40, R41): while it is mapped the addresses 0x0000 to 0x00FF read the boot image and
all others read as without it, and no write changes it, but is the write that it is without the overlay; it unmaps when PC is 0x0100 at the start of a step, and then the
cartridge's bytes show. -/
def Obligations.BootOverlay : Prop :=
  (∀ (s : State) (image : Vector Byte 256) (joy : BitVec 4) (a : Word), s.bootMapped = true → s.boot = some image →
    (∀ h : a.toNat < 256, busRead joy s a = image[a.toNat])
    ∧ (256 ≤ a.toNat → busRead joy s a = busRead joy { s with bootMapped := false } a))
  ∧ (∀ (s : State) (a : Word) (v : Byte), (busWrite s a v).boot = s.boot ∧ (busWrite s a v).bootMapped = s.bootMapped
      ∧ { busWrite s a v with bootMapped := false } = busWrite { s with bootMapped := false } a v
      ∧ (a.toNat < 0x8000 → busWrite s a v = bankCommand s a v))
  ∧ (∀ s : State, s.cpu.pc = 0x0100 → unmapBoot s = { s with bootMapped := false })
  ∧ (∀ s : State, s.cpu.pc ≠ 0x0100 → unmapBoot s = s)
  ∧ ∀ (s : State) (joy : BitVec 4) (a : Word), s.bootMapped = false → a.toNat < 256 →
      busRead joy s a = s.cart.byte a.toNat

/-! ### The timer and the PPU -/

/-- O54. `TimerAdvance(n)` (60_exceptions.md R222 to R224). DIV and `div_acc` count n more cycles; TIMA is untouched while TAC[2] =
0; while it is 1, cycles that do not fill the period only accumulate, and the cycle that fills it adds 1 to TIMA, or at 0xFF
reloads TMA and requests the timer interrupt. In general, and also where `tima_acc` has passed a period that a write of TAC
made shorter (R225), `(tima_acc + n) / period` increments happen and the remainder stays: without an overflow TIMA counts
them; with one, what is left of them after the first overflow counts from TMA, back to TMA at each further one, and the
interrupt is requested. Nothing else changes. -/
def Obligations.TimerAdvanceRules : Prop :=
  ∀ (n : Nat) (s : State),
    let t := timerAdvance n s
    let period := s.timer.period
    (t.timer.div.toNat * 256 + t.timer.divAcc) % 65536 = (s.timer.div.toNat * 256 + s.timer.divAcc + n) % 65536
    ∧ t.timer.divAcc < 256
    ∧ [1024, 16, 64, 256][s.timer.tac.toNat % 4]? = some period
    ∧ { t with timer := s.timer, irq := s.irq } = s ∧ t.irq.enable = s.irq.enable
    ∧ t.timer.tma = s.timer.tma ∧ t.timer.tac = s.timer.tac
    ∧ (s.timer.tac.getLsbD 2 = false →
        t.timer.tima = s.timer.tima ∧ t.timer.timaAcc = s.timer.timaAcc ∧ t.irq = s.irq)
    ∧ (s.timer.tac.getLsbD 2 = true → s.timer.timaAcc + n < period →
        t.timer.tima = s.timer.tima ∧ t.timer.timaAcc = s.timer.timaAcc + n ∧ t.irq = s.irq)
    ∧ (s.timer.tac.getLsbD 2 = true → s.timer.timaAcc + n = period → s.timer.tima ≠ 0xFF →
        t.timer.tima = s.timer.tima + 1 ∧ t.timer.timaAcc = 0 ∧ t.irq = s.irq)
    ∧ (s.timer.tac.getLsbD 2 = true → s.timer.timaAcc + n = period → s.timer.tima = 0xFF →
        t.timer.tima = s.timer.tma ∧ t.timer.timaAcc = 0 ∧ t.irq.request = s.irq.request ||| 0b00100)
    ∧ (s.timer.tac.getLsbD 2 = true →
        let total := s.timer.tima.toNat + (s.timer.timaAcc + n) / period
        t.timer.timaAcc = (s.timer.timaAcc + n) % period
        ∧ (total ≤ 255 → t.timer.tima.toNat = total ∧ t.irq = s.irq)
        ∧ (255 < total → t.timer.tima.toNat = s.timer.tma.toNat + (total - 256) % (256 - s.timer.tma.toNat)
            ∧ t.irq.request = s.irq.request ||| 0b00100))

/-- O55. Advances add up: m cycles and then n cycles are m + n cycles, whatever the accumulators hold. -/
def Obligations.TimerAdvancesAddUp : Prop :=
  ∀ (m n : Nat) (s : State), timerAdvance n (timerAdvance m s) = timerAdvance (m + n) s

/-- O56. From TIMA = 0 and an empty accumulator, an enabled counter first overflows after exactly 256 periods (60_exceptions.md
R224): then it has reloaded TMA and requested the timer interrupt, and not a cycle earlier. -/
def Obligations.TimerOverflowsAfter256Periods : Prop :=
  ∀ s : State, s.timer.tac.getLsbD 2 = true → s.timer.tima = 0 → s.timer.timaAcc = 0 →
    (∀ n, n < 256 * s.timer.period → (timerAdvance n s).irq = s.irq
      ∧ (timerAdvance n s).timer.tima = BitVec.ofNat 8 (n / s.timer.period))
    ∧ (timerAdvance (256 * s.timer.period) s).timer.tima = s.timer.tma
    ∧ (timerAdvance (256 * s.timer.period) s).timer.timaAcc = 0
    ∧ (timerAdvance (256 * s.timer.period) s).irq.request = s.irq.request ||| 0b00100

/-- O57. A frame is 70224 cycles (60_exceptions.md R227): from any position in range, 70224 ticks come back to it with one more
frame counted; and from line 0, dot 0, no fewer ticks complete a frame. The position counts one dot a tick (R226). -/
def Obligations.FrameIs70224Cycles : Prop :=
  ∀ x : PpuIrq, x.ppu.positionOk = true →
    (∀ n, ((ppuTicks n x).ppu.ly.toNat * 456 + (ppuTicks n x).ppu.dot) =
        (x.ppu.ly.toNat * 456 + x.ppu.dot + n) % 70224
      ∧ (ppuTicks n x).ppu.frames = x.ppu.frames + (x.ppu.ly.toNat * 456 + x.ppu.dot + n) / 70224
      ∧ (ppuTicks n x).ppu.positionOk = true)
    ∧ (ppuTicks 70224 x).ppu.ly = x.ppu.ly ∧ (ppuTicks 70224 x).ppu.dot = x.ppu.dot
    ∧ (ppuTicks 70224 x).ppu.frames = x.ppu.frames + 1

/-- O58. The modes and the requests of one tick (60_exceptions.md R226, R228, R229): the mode is the function of the position that
R226 gives; V-blank is requested exactly on entry to line 144, and LCD-status exactly on an enabled entry to mode 0, 1 or 2
or on an enabled LY = LYC at a line start; no other request bit changes, and a line start sets STAT[2]. The start of a
visible line, and nothing else, draws the pixel-transfer length anew, for its frame and line (the draw is the free value of
log entry 3). Every other register of the PPU is kept. -/
def Obligations.PpuRequests : Prop :=
  ∀ x : PpuIrq, x.ppu.positionOk = true →
    let old := x.ppu
    let new := (ppuTick x).ppu
    new.mode = (if 144 ≤ new.ly.toNat then .vblank else if new.dot < 80 then .oamSearch
      else if new.dot < 80 + new.mode3Len then .transfer else .hblank)
    ∧ (ppuTick x).request.getLsbD 0 = (x.request.getLsbD 0 || decide (new.ly = 144 ∧ new.dot = 0))
    ∧ (ppuTick x).request.getLsbD 1 = (x.request.getLsbD 1
        || (new.statEnable.getLsbD 0 && decide (new.mode = .hblank ∧ old.mode ≠ .hblank))
        || (new.statEnable.getLsbD 1 && decide (new.mode = .vblank ∧ old.mode ≠ .vblank))
        || (new.statEnable.getLsbD 2 && decide (new.mode = .oamSearch ∧ old.mode ≠ .oamSearch))
        || (new.statEnable.getLsbD 3 && decide (new.dot = 0 ∧ new.ly = new.lyc)))
    ∧ (∀ j, 2 ≤ j → (ppuTick x).request.getLsbD j = x.request.getLsbD j)
    ∧ new.lycMatch = (if new.dot = 0 then decide (new.ly = new.lyc) else old.lycMatch)
    ∧ new.mode3Len = (if new.dot = 0 ∧ new.ly.toNat < 144 then mode3Draw new.frames new.ly.toNat else old.mode3Len)
    ∧ { new with ly := old.ly, dot := old.dot, frames := old.frames, mode3Len := old.mode3Len, lycMatch := old.lycMatch } = old

/-! ### Whole-machine rules, reset and load -/

/-- O59. Who writes the control state (10_state.md R12, R13, R17 to R20): only DI, EI and RETI change IME or `ei_pending`, only
HALT and STOP change `run`, no instruction records a fault and goes on; SP changes only by the instructions that R12 names;
and PC, past the instruction, changes only by a control transfer. -/
def Obligations.ControlStateWriters : Prop :=
  ∀ (i : Instr) (s t : State), exec i s = .next t →
    t.cpu.fault = s.cpu.fault
    ∧ (i ≠ .di → i ≠ .ei → i ≠ .reti → t.cpu.ime = s.cpu.ime ∧ t.cpu.eiPending = s.cpu.eiPending)
    ∧ (i ≠ .halt → i ≠ .stop → t.cpu.run = s.cpu.run)
    ∧ ((∀ v, i ≠ .ld_SP_d16 v) → i ≠ .ld_SP_HL → i ≠ .inc_SP → i ≠ .dec_SP → (∀ e, i ≠ .add_SP_e8 e) →
        (∀ p, i ≠ Instr.push p) → (∀ p, i ≠ Instr.pop p) → (∀ a, i ≠ .call_a16 a) → (∀ k a, i ≠ Instr.callCond k a) →
        i ≠ .ret → (∀ k, i ≠ Instr.retCond k) → i ≠ .reti → (∀ y, i ≠ Instr.rst y) → t.cpu.sp = s.cpu.sp)
    ∧ ((∀ a, i ≠ .jp_a16 a) → (∀ k a, i ≠ Instr.jpCond k a) → i ≠ .jp_HL → (∀ e, i ≠ .jr_e8 e) →
        (∀ k e, i ≠ Instr.jrCond k e) → (∀ a, i ≠ .call_a16 a) → (∀ k a, i ≠ Instr.callCond k a) → i ≠ .ret →
        (∀ k, i ≠ Instr.retCond k) → i ≠ .reti → (∀ y, i ≠ Instr.rst y) → i ≠ .prefixCb → t.cpu.pc = s.cpu.pc)

/-- O60. The load and the reset values (20_memory.md R70; 10_state.md R34, R35; 70_reset_and_hazards.md R238 to R241). An image
with an unknown type byte, or shorter than its declared size, gives `InvalidROM`, and so does any image shorter than
0x0150 bytes; every other image loads. With `POST_BOOT` at its default and no boot image, every state element has its value of
R34: the IO cells hold 0xFF, and RAM holds `RESET_RAM`, of which `ram` gives the cells that it lists. With a boot image the
machine is the same but for the CPU, DIV = 0, IF = 0, LCDC = 0, the mapped overlay and the image (R35); A to L, F's high
nibble and SP are draws, of which nothing is said. The model's own choices, not the spec's: STAT[2] = 0 (log entry 6),
P1[5:4] = 11, where R34 contradicts itself (log entry 24), the
outputs `cycles` and `warnings` start at 0 (log entry 13), the fields `dmaWritten` and `joypadEvents` (log entries 11 and 10),
a boot machine takes R34's I/O values from `POST_BOOT` (log entry 23), and `State.reset` is the load's result for
the model's own cartridge with every byte of RAM a draw (log entries 1 and 5). -/
def Obligations.LoadAndResetValues : Prop :=
  State.reset = resetNoBoot Config.default PostBoot.default [] Cart.blank
  ∧ ∀ (config : Config) (ram : Memory) (image : List Byte),
    (headerKind image = none ∨ image.length < declaredSize image → ∀ post boot,
      load config post ram image boot = .error .invalidRom)
    ∧ (image.length < 0x0150 → ∀ post boot, load config post ram image boot = .error .invalidRom)
    ∧ ∀ kind, headerKind image = some kind → declaredSize image ≤ image.length →
      ∃ s, load config PostBoot.default ram image none = .ok s
        ∧ s.cart.kind = kind ∧ s.cart.eramSize = headerEram image
        ∧ (∀ o (h : o < image.length), s.cart.byte o = image[o]) ∧ (∀ o, image.length ≤ o → s.cart.byte o = 0xFF)
        ∧ s.cpu.a = 0x01 ∧ s.cpu.flags.toByte = 0xB0 ∧ s.bc = 0x0013 ∧ s.de = 0x00D8 ∧ s.hl = 0x014D
        ∧ s.cpu.sp = 0xFFFE ∧ s.cpu.pc = 0x0100 ∧ s.cpu.ime = false ∧ s.cpu.eiPending = false
        ∧ s.cpu.run = .running ∧ s.cpu.fault = none ∧ s.irq.enable = 0x00 ∧ s.irq.request = 0x01
        ∧ s.timer = { div := 0xAB, tima := 0, tma := 0, tac := 0, divAcc := 0, timaAcc := 0 }
        ∧ s.ppu.lcdc = 0x91 ∧ s.ppu.statEnable = 0 ∧ s.ppu.lycMatch = false ∧ s.ppu.scy = 0 ∧ s.ppu.scx = 0
        ∧ s.ppu.lyc = 0 ∧ s.ppu.bgp = 0xFC ∧ s.ppu.obp0 = 0xFF ∧ s.ppu.obp1 = 0xFF ∧ s.ppu.wy = 0 ∧ s.ppu.wx = 0
        ∧ s.p1Select = 0b11
        ∧ s.ppu.ly = 0 ∧ s.ppu.dot = 0 ∧ s.ppu.mode = .oamSearch ∧ s.ppu.mode3Len = mode3Draw 0 0 ∧ s.ppu.frames = 0
        ∧ s.mbc = { romLo5 := 1, bank2 := 0, ramEnable := false, bankMode := false } ∧ s.bootMapped = false ∧ s.boot = none
        ∧ (∀ k, 0xFF00 ≤ k → k < 0xFF80 → Memory.read s.mem k = 0xFF)
        ∧ (∀ k, Memory.isRamKey s.cart.eramSize k = true → Memory.read s.mem k = Memory.read ram k)
        ∧ (∀ k, Memory.read [] k = if 0xFF00 ≤ k ∧ k < 0xFF80 then 0xFF else Config.resetRam k)
        ∧ s.config = config ∧ s.cycles = 0 ∧ s.warnings = 0 ∧ s.goesOn = true ∧ s.joypadEvents = []
        ∧ ∀ b : Vector Byte 256, ∃ t, load config PostBoot.default ram image (some b) = .ok t
          ∧ t = { s with cpu := t.cpu, irq := { s.irq with request := 0 }, timer := { s.timer with div := 0 }
                         ppu := { s.ppu with lcdc := 0x00 }, bootMapped := true, boot := some b }
          ∧ t.cpu.pc = 0x0000 ∧ t.cpu.ime = false ∧ t.cpu.eiPending = false ∧ t.cpu.run = .running ∧ t.cpu.fault = none
          ∧ t.cpu.flags.toByte &&& 0x0F = 0
end

