-- ==== Sys2Proof/Laws/Bits.lean ====
section
/-! SUPPORT. Sys2Proof/Laws/Bits.lean: the byte-order helpers and the 3-bit fields. -/

namespace Sys2Proof.Laws

open Sys2Proof.Machine

theorem cat_toNat (h l : Byte) : (cat h l).toNat = h.toNat * 256 + l.toNat := by
  have h8 := Nat.two_pow_add_eq_or_of_lt l.isLt h.toNat
  simp only [cat, BitVec.toNat_append, Nat.shiftLeft_eq]
  rw [Nat.mul_comm h.toNat (2 ^ 8), ← h8, Nat.mul_comm]

theorem hi8_toNat (v : Word) : (hi8 v).toNat = v.toNat / 256 := by
  have := v.isLt
  simp only [hi8, BitVec.extractLsb'_toNat, Nat.shiftRight_eq_div_pow]
  omega

theorem lo8_toNat (v : Word) : (lo8 v).toNat = v.toNat % 256 := by
  simp [lo8, BitVec.extractLsb'_toNat]

@[simp] theorem hi8_cat (h l : Byte) : hi8 (cat h l) = h := by
  have := l.isLt
  apply BitVec.eq_of_toNat_eq
  rw [hi8_toNat, cat_toNat]; omega

@[simp] theorem lo8_cat (h l : Byte) : lo8 (cat h l) = l := by
  have := l.isLt
  apply BitVec.eq_of_toNat_eq
  rw [lo8_toNat, cat_toNat]; omega

@[simp] theorem cat_hi8_lo8 (v : Word) : cat (hi8 v) (lo8 v) = v := by
  apply BitVec.eq_of_toNat_eq
  rw [cat_toNat, hi8_toNat, lo8_toNat]; omega

/-- A mask applies byte by byte. -/
theorem cat_and (h l h' l' : Byte) : cat h l &&& cat h' l' = cat (h &&& h') (l &&& l') :=
  BitVec.and_append

/-- A page-FF address, as a number. -/
theorem highPage_toNat (n : Byte) : (highPage n).toNat = 0xFF00 + n.toNat := by
  simp [highPage, cat_toNat]

/-- A page-FF address, as R79 writes it. -/
theorem highPage_eq (n : Byte) : highPage n = BitVec.ofNat 16 (0xFF00 + n.toNat) := by
  have := n.isLt
  apply BitVec.eq_of_toNat_eq
  rw [highPage_toNat, BitVec.toNat_ofNat]
  omega

@[simp] theorem octOf_toNat (y : Oct) : octOf y.toNat = y := by
  cases y <;> rfl

theorem oct_toNat_lt (y : Oct) : y.toNat < 8 := by
  cases y <;> decide

theorem lowNibble_lt (v : Byte) : lowNibble v < 16 := Nat.mod_lt _ (by decide)

/-- A byte read as a number below 256. -/
theorem byte_lt (v : Byte) : v.toNat < 256 := v.isLt

/-- An address read as a number below 65536. -/
theorem word_lt (a : Word) : a.toNat < 65536 := a.isLt

end Sys2Proof.Laws
end

