-- ==== Sys2Proof/Laws/Memory.lean ====
section
/-! SUPPORT. Sys2Proof/Laws/Memory.lean: the laws of the storage list: a read after a write, and every operation keeps the
canonical form. -/

namespace Sys2Proof.Laws

open Sys2Proof.Machine

/-! ### Lookup -/

theorem lookup_erase_same (m : Memory) (a : Nat) : Memory.lookup (Memory.erase m a) a = none := by
  induction m with
  | nil => rfl
  | cons cell m ih =>
    obtain ⟨k, w⟩ := cell
    by_cases h : a = k <;> simp [Memory.erase, Memory.lookup, h] <;> simpa [h] using ih

theorem lookup_erase_other (m : Memory) (a b : Nat) (hab : b ≠ a) :
    Memory.lookup (Memory.erase m a) b = Memory.lookup m b := by
  induction m with
  | nil => rfl
  | cons cell m ih =>
    obtain ⟨k, w⟩ := cell
    by_cases h : a = k
    · have : b ≠ k := h ▸ hab
      simp [Memory.erase, Memory.lookup, h, this]
      simpa [h] using ih
    · by_cases h2 : b = k <;> simp [Memory.erase, Memory.lookup, h, h2]
      simpa using ih

theorem lookup_insert_other (m : Memory) (a b : Nat) (v : Byte) (hab : b ≠ a) :
    Memory.lookup (Memory.insert m a v) b = Memory.lookup m b := by
  induction m with
  | nil => simp [Memory.insert, Memory.lookup, hab]
  | cons cell m ih =>
    obtain ⟨k, w⟩ := cell
    by_cases h : a < k
    · simp [Memory.insert, Memory.lookup, h, hab]
    · by_cases h2 : b = k <;> simp [Memory.insert, Memory.lookup, h, h2]
      exact ih

theorem lookup_insert_same (m : Memory) (a : Nat) (v : Byte) (hm : Memory.lookup m a = none) :
    Memory.lookup (Memory.insert m a v) a = some v := by
  induction m with
  | nil => simp [Memory.insert, Memory.lookup]
  | cons cell m ih =>
    obtain ⟨k, w⟩ := cell
    by_cases h : a < k
    · simp [Memory.insert, Memory.lookup, h]
    · by_cases h2 : a = k
      · simp [Memory.lookup, h2] at hm
      · simp only [Memory.lookup, if_neg h2] at hm
        simp [Memory.insert, Memory.lookup, h, h2, ih hm]

/-- A redundant entry gives what its key reads as unlisted. -/
theorem redundant_unlisted (k : Nat) (v : Byte) (h : Memory.redundant k v = true) : Memory.unlisted k = v := by
  simp only [Memory.redundant, Bool.and_eq_true, beq_iff_eq] at h
  simp [Memory.unlisted, h.1, h.2]

/-- A read after a write to the same key gives the byte written. -/
@[simp] theorem read_write_same (m : Memory) (a : Nat) (v : Byte) :
    Memory.read (Memory.write m a v) a = v := by
  by_cases h : Memory.redundant a v = true
  · simp [Memory.read, Memory.write, h, lookup_erase_same, redundant_unlisted a v h]
  · simp [Memory.read, Memory.write, h, lookup_insert_same, lookup_erase_same]

/-- A write leaves every other key alone. -/
theorem read_write_other (m : Memory) (a b : Nat) (v : Byte) (hab : b ≠ a) :
    Memory.read (Memory.write m a v) b = Memory.read m b := by
  by_cases h : Memory.redundant a v = true
  · simp [Memory.read, Memory.write, h, lookup_erase_other m a b hab]
  · simp [Memory.read, Memory.write, h, lookup_insert_other _ a b v hab, lookup_erase_other m a b hab]

/-! ### The canonical form -/

theorem risesFrom_mono (m : Memory) (low low' : Nat) (hl : low' ≤ low) (h : Memory.risesFrom m low = true) :
    Memory.risesFrom m low' = true := by
  cases m with
  | nil => rfl
  | cons cell m =>
    obtain ⟨k, w⟩ := cell
    simp only [Memory.risesFrom, Bool.and_eq_true, decide_eq_true_eq] at h ⊢
    exact ⟨by omega, h.2⟩

theorem risesFrom_erase (m : Memory) (a low : Nat) (h : Memory.risesFrom m low = true) :
    Memory.risesFrom (Memory.erase m a) low = true := by
  induction m generalizing low with
  | nil => rfl
  | cons cell m ih =>
    obtain ⟨k, w⟩ := cell
    simp only [Memory.risesFrom, Bool.and_eq_true, decide_eq_true_eq] at h
    by_cases ha : a = k
    · simpa [Memory.erase, ha] using risesFrom_mono _ (k + 1) low (by omega) (by simpa [ha] using ih (k + 1) h.2)
    · simpa [Memory.erase, ha, Memory.risesFrom] using ⟨h.1, ih (k + 1) h.2⟩

theorem risesFrom_insert (m : Memory) (a low : Nat) (v : Byte) (hm : Memory.lookup m a = none) (hl : low ≤ a)
    (h : Memory.risesFrom m low = true) : Memory.risesFrom (Memory.insert m a v) low = true := by
  induction m generalizing low with
  | nil => simpa [Memory.insert, Memory.risesFrom] using hl
  | cons cell m ih =>
    obtain ⟨k, w⟩ := cell
    simp only [Memory.risesFrom, Bool.and_eq_true, decide_eq_true_eq] at h
    by_cases ha : a < k
    · simp only [Memory.insert, if_pos ha, Memory.risesFrom, Bool.and_eq_true, decide_eq_true_eq]
      exact ⟨hl, by omega, h.2⟩
    · by_cases h2 : a = k
      · simp [Memory.lookup, h2] at hm
      · simp only [Memory.lookup, if_neg h2] at hm
        simp only [Memory.insert, if_neg ha, Memory.risesFrom, Bool.and_eq_true, decide_eq_true_eq]
        exact ⟨h.1, ih (k + 1) hm (by omega) h.2⟩

/-- A property of all cells survives an erase. -/
theorem all_erase (p : Host.Cell → Bool) (m : Memory) (a : Nat) (h : m.all p = true) :
    (Memory.erase m a).all p = true := by
  induction m with
  | nil => rfl
  | cons cell m ih =>
    obtain ⟨k, w⟩ := cell
    simp only [List.all_cons, Bool.and_eq_true] at h
    by_cases ha : a = k
    · simpa [Memory.erase, ha] using (by simpa [ha] using ih h.2 : (Memory.erase m k).all p = true)
    · rw [Memory.erase, if_neg ha, List.all_cons, h.1, ih h.2]; rfl

/-- A property of all cells survives an insert of a cell that has it. -/
theorem all_insert (p : Host.Cell → Bool) (m : Memory) (a : Nat) (v : Byte) (hv : p (a, v) = true)
    (h : m.all p = true) : (Memory.insert m a v).all p = true := by
  induction m with
  | nil => simpa [Memory.insert] using hv
  | cons cell m ih =>
    obtain ⟨k, w⟩ := cell
    simp only [List.all_cons, Bool.and_eq_true] at h
    by_cases ha : a < k
    · rw [Memory.insert, if_pos ha, List.all_cons, List.all_cons, hv, h.1, h.2]; rfl
    · rw [Memory.insert, if_neg ha, List.all_cons, h.1, ih h.2]; rfl

/-- Every write keeps the canonical form. -/
theorem write_wf (m : Memory) (a : Nat) (v : Byte) (h : Memory.wf m = true) :
    Memory.wf (Memory.write m a v) = true := by
  simp only [Memory.wf, Bool.and_eq_true] at h ⊢
  by_cases hv : Memory.redundant a v = true
  · simp only [Memory.write, if_pos hv]
    exact ⟨risesFrom_erase m a 0 h.1, all_erase _ m a h.2⟩
  · simp only [Memory.write, if_neg hv]
    exact ⟨risesFrom_insert _ a 0 v (lookup_erase_same m a) (Nat.zero_le _) (risesFrom_erase m a 0 h.1),
      all_insert _ _ a v (by simpa using hv) (all_erase _ m a h.2)⟩

/-- A write under a storage key keeps every key one of R31's arrays. -/
theorem write_storageKeys (n : Nat) (m : Memory) (a : Nat) (v : Byte) (ha : Memory.isStorageKey n a = true)
    (h : m.all (fun cell => Memory.isStorageKey n cell.1) = true) :
    (Memory.write m a v).all (fun cell => Memory.isStorageKey n cell.1) = true := by
  by_cases hv : Memory.redundant a v = true
  · simpa only [Memory.write, if_pos hv] using all_erase _ m a h
  · simpa only [Memory.write, if_neg hv] using all_insert _ _ a v ha (all_erase _ m a h)

/-! ### Reset -/

/-- A RAM key is no IO cell. -/
theorem isRamKey_not_io (n k : Nat) (h : Memory.isRamKey n k = true) : Memory.isIoKey k = false := by
  simp only [Memory.isRamKey, Memory.isIoKey, Bool.or_eq_true, Bool.and_eq_true, decide_eq_true_eq,
    Bool.and_eq_false_iff, decide_eq_false_iff_not] at *
  omega

/-- The storage right after reset has the canonical form, whatever cells are given. -/
theorem atReset_wf (n : Nat) (ram : Memory) : Memory.wf (Memory.atReset n ram) = true := by
  induction ram with
  | nil => rfl
  | cons cell ram ih =>
    simp only [Memory.atReset]
    split
    · exact write_wf _ _ _ ih
    · exact ih

/-- The storage right after reset lists RAM alone. -/
theorem atReset_storageKeys (n : Nat) (ram : Memory) :
    (Memory.atReset n ram).all (fun cell => Memory.isStorageKey n cell.1) = true := by
  induction ram with
  | nil => rfl
  | cons cell ram ih =>
    simp only [Memory.atReset]
    split
    case isTrue h => exact write_storageKeys n _ _ _ (by simp [Memory.isStorageKey, h]) ih
    case isFalse => exact ih

/-- Right after reset a RAM key reads as the cells given, or as its draw. -/
theorem atReset_read_ram (n : Nat) (ram : Memory) (k : Nat) (h : Memory.isRamKey n k = true) :
    Memory.read (Memory.atReset n ram) k = Memory.read ram k := by
  induction ram with
  | nil => rfl
  | cons cell ram ih =>
    obtain ⟨j, v⟩ := cell
    by_cases hk : k = j
    · subst hk
      rw [Memory.atReset, if_pos h, read_write_same]
      simp [Memory.read, Memory.lookup]
    · have hr : Memory.read ((j, v) :: ram) k = Memory.read ram k := by simp [Memory.read, Memory.lookup, hk]
      rw [hr, ← ih, Memory.atReset]
      split
      · exact read_write_other _ _ _ _ hk
      · rfl

/-- Right after reset every other key reads as unlisted: an IO cell as 0xFF. -/
theorem atReset_read_other (n : Nat) (ram : Memory) (k : Nat) (h : Memory.isRamKey n k = false) :
    Memory.read (Memory.atReset n ram) k = Memory.unlisted k := by
  induction ram with
  | nil => rfl
  | cons cell ram ih =>
    obtain ⟨j, v⟩ := cell
    simp only [Memory.atReset]
    split
    case isTrue hj => rw [read_write_other _ _ _ _ (by rintro rfl; simp [h] at hj)]; exact ih
    case isFalse => exact ih

/-- The memory after reset has the canonical form. -/
theorem reset_mem_wf : Memory.wf State.reset.mem = true := rfl

/-- The cartridge after reset has its canonical form. -/
theorem reset_cart_wf : State.reset.cart.wf = true := rfl

end Sys2Proof.Laws
end

