-- ==== Sys2Proof/Laws/State.lean ====
section
/-! SUPPORT. Sys2Proof/Laws/State.lean: one lemma per field per update of the state, so that no later proof unfolds a
record update; and reads of the bus, which see no CPU register. -/

namespace Sys2Proof.Laws

open Sys2Proof.Machine

/-- A read of the bus sees no CPU register and no cycle count. -/
theorem busRead_besides (s : State) (c : Cpu) (n : Nat) (joy : BitVec 4) (x : Word) :
    busRead joy { s with cpu := c, cycles := n } x = busRead joy s x := by
  have hb : bootByte { s with cpu := c, cycles := n } x = bootByte s x := rfl
  have hr : romRead { s with cpu := c, cycles := n } x = romRead s x := rfl
  have he : eramRead { s with cpu := c, cycles := n } x = eramRead s x := rfl
  have hi : ioRead joy { s with cpu := c, cycles := n } x = ioRead joy s x := by
    unfold ioRead
    cases ioReg x <;> rfl
  unfold busRead
  rw [hb, hr, he, hi]

/-! ### `setFlags` -/

@[simp] theorem setFlags_a (s : State) (f : Flags) : (s.setFlags f).cpu.a = s.cpu.a := rfl
@[simp] theorem setFlags_b (s : State) (f : Flags) : (s.setFlags f).cpu.b = s.cpu.b := rfl
@[simp] theorem setFlags_c (s : State) (f : Flags) : (s.setFlags f).cpu.c = s.cpu.c := rfl
@[simp] theorem setFlags_d (s : State) (f : Flags) : (s.setFlags f).cpu.d = s.cpu.d := rfl
@[simp] theorem setFlags_e (s : State) (f : Flags) : (s.setFlags f).cpu.e = s.cpu.e := rfl
@[simp] theorem setFlags_h (s : State) (f : Flags) : (s.setFlags f).cpu.h = s.cpu.h := rfl
@[simp] theorem setFlags_l (s : State) (f : Flags) : (s.setFlags f).cpu.l = s.cpu.l := rfl
@[simp] theorem setFlags_flags (s : State) (f : Flags) : (s.setFlags f).cpu.flags = f := rfl
@[simp] theorem setFlags_sp (s : State) (f : Flags) : (s.setFlags f).cpu.sp = s.cpu.sp := rfl
@[simp] theorem setFlags_pc (s : State) (f : Flags) : (s.setFlags f).cpu.pc = s.cpu.pc := rfl
@[simp] theorem setFlags_ime (s : State) (f : Flags) : (s.setFlags f).cpu.ime = s.cpu.ime := rfl
@[simp] theorem setFlags_eiPending (s : State) (f : Flags) : (s.setFlags f).cpu.eiPending = s.cpu.eiPending := rfl
@[simp] theorem setFlags_run (s : State) (f : Flags) : (s.setFlags f).cpu.run = s.cpu.run := rfl
@[simp] theorem setFlags_fault (s : State) (f : Flags) : (s.setFlags f).cpu.fault = s.cpu.fault := rfl
@[simp] theorem setFlags_irq (s : State) (f : Flags) : (s.setFlags f).irq = s.irq := rfl
@[simp] theorem setFlags_timer (s : State) (f : Flags) : (s.setFlags f).timer = s.timer := rfl
@[simp] theorem setFlags_mbc (s : State) (f : Flags) : (s.setFlags f).mbc = s.mbc := rfl
@[simp] theorem setFlags_ppu (s : State) (f : Flags) : (s.setFlags f).ppu = s.ppu := rfl
@[simp] theorem setFlags_p1Select (s : State) (f : Flags) : (s.setFlags f).p1Select = s.p1Select := rfl
@[simp] theorem setFlags_bootMapped (s : State) (f : Flags) : (s.setFlags f).bootMapped = s.bootMapped := rfl
@[simp] theorem setFlags_mem (s : State) (f : Flags) : (s.setFlags f).mem = s.mem := rfl
@[simp] theorem setFlags_cart (s : State) (f : Flags) : (s.setFlags f).cart = s.cart := rfl
@[simp] theorem setFlags_boot (s : State) (f : Flags) : (s.setFlags f).boot = s.boot := rfl
@[simp] theorem setFlags_config (s : State) (f : Flags) : (s.setFlags f).config = s.config := rfl
@[simp] theorem setFlags_cycles (s : State) (f : Flags) : (s.setFlags f).cycles = s.cycles := rfl
@[simp] theorem setFlags_warnings (s : State) (f : Flags) : (s.setFlags f).warnings = s.warnings := rfl
@[simp] theorem setFlags_dmaWritten (s : State) (f : Flags) : (s.setFlags f).dmaWritten = s.dmaWritten := rfl
@[simp] theorem setFlags_joypadEvents (s : State) (f : Flags) : (s.setFlags f).joypadEvents = s.joypadEvents := rfl
@[simp] theorem setFlags_draws (s : State) (f : Flags) : (s.setFlags f).draws = s.draws := rfl
@[simp] theorem setFlags_busRead (s : State) (f : Flags) (joy : BitVec 4) (x : Word) :
    busRead joy (s.setFlags f) x = busRead joy s x := busRead_besides s _ _ joy x
@[simp] theorem setFlags_readByte (s : State) (f : Flags) (k : Nat) (x : Word) :
    (s.setFlags f).readByte k x = s.readByte k x := busRead_besides s _ _ _ x

/-! ### `setPc` -/

@[simp] theorem setPc_a (s : State) (v : Word) : (s.setPc v).cpu.a = s.cpu.a := rfl
@[simp] theorem setPc_b (s : State) (v : Word) : (s.setPc v).cpu.b = s.cpu.b := rfl
@[simp] theorem setPc_c (s : State) (v : Word) : (s.setPc v).cpu.c = s.cpu.c := rfl
@[simp] theorem setPc_d (s : State) (v : Word) : (s.setPc v).cpu.d = s.cpu.d := rfl
@[simp] theorem setPc_e (s : State) (v : Word) : (s.setPc v).cpu.e = s.cpu.e := rfl
@[simp] theorem setPc_h (s : State) (v : Word) : (s.setPc v).cpu.h = s.cpu.h := rfl
@[simp] theorem setPc_l (s : State) (v : Word) : (s.setPc v).cpu.l = s.cpu.l := rfl
@[simp] theorem setPc_flags (s : State) (v : Word) : (s.setPc v).cpu.flags = s.cpu.flags := rfl
@[simp] theorem setPc_sp (s : State) (v : Word) : (s.setPc v).cpu.sp = s.cpu.sp := rfl
@[simp] theorem setPc_pc (s : State) (v : Word) : (s.setPc v).cpu.pc = v := rfl
@[simp] theorem setPc_ime (s : State) (v : Word) : (s.setPc v).cpu.ime = s.cpu.ime := rfl
@[simp] theorem setPc_eiPending (s : State) (v : Word) : (s.setPc v).cpu.eiPending = s.cpu.eiPending := rfl
@[simp] theorem setPc_run (s : State) (v : Word) : (s.setPc v).cpu.run = s.cpu.run := rfl
@[simp] theorem setPc_fault (s : State) (v : Word) : (s.setPc v).cpu.fault = s.cpu.fault := rfl
@[simp] theorem setPc_irq (s : State) (v : Word) : (s.setPc v).irq = s.irq := rfl
@[simp] theorem setPc_timer (s : State) (v : Word) : (s.setPc v).timer = s.timer := rfl
@[simp] theorem setPc_mbc (s : State) (v : Word) : (s.setPc v).mbc = s.mbc := rfl
@[simp] theorem setPc_ppu (s : State) (v : Word) : (s.setPc v).ppu = s.ppu := rfl
@[simp] theorem setPc_p1Select (s : State) (v : Word) : (s.setPc v).p1Select = s.p1Select := rfl
@[simp] theorem setPc_bootMapped (s : State) (v : Word) : (s.setPc v).bootMapped = s.bootMapped := rfl
@[simp] theorem setPc_mem (s : State) (v : Word) : (s.setPc v).mem = s.mem := rfl
@[simp] theorem setPc_cart (s : State) (v : Word) : (s.setPc v).cart = s.cart := rfl
@[simp] theorem setPc_boot (s : State) (v : Word) : (s.setPc v).boot = s.boot := rfl
@[simp] theorem setPc_config (s : State) (v : Word) : (s.setPc v).config = s.config := rfl
@[simp] theorem setPc_cycles (s : State) (v : Word) : (s.setPc v).cycles = s.cycles := rfl
@[simp] theorem setPc_warnings (s : State) (v : Word) : (s.setPc v).warnings = s.warnings := rfl
@[simp] theorem setPc_dmaWritten (s : State) (v : Word) : (s.setPc v).dmaWritten = s.dmaWritten := rfl
@[simp] theorem setPc_joypadEvents (s : State) (v : Word) : (s.setPc v).joypadEvents = s.joypadEvents := rfl
@[simp] theorem setPc_draws (s : State) (v : Word) : (s.setPc v).draws = s.draws := rfl
@[simp] theorem setPc_busRead (s : State) (v : Word) (joy : BitVec 4) (x : Word) :
    busRead joy (s.setPc v) x = busRead joy s x := busRead_besides s _ _ joy x
@[simp] theorem setPc_readByte (s : State) (v : Word) (k : Nat) (x : Word) :
    (s.setPc v).readByte k x = s.readByte k x := busRead_besides s _ _ _ x

/-! ### `setSp` -/

@[simp] theorem setSp_a (s : State) (v : Word) : (s.setSp v).cpu.a = s.cpu.a := rfl
@[simp] theorem setSp_b (s : State) (v : Word) : (s.setSp v).cpu.b = s.cpu.b := rfl
@[simp] theorem setSp_c (s : State) (v : Word) : (s.setSp v).cpu.c = s.cpu.c := rfl
@[simp] theorem setSp_d (s : State) (v : Word) : (s.setSp v).cpu.d = s.cpu.d := rfl
@[simp] theorem setSp_e (s : State) (v : Word) : (s.setSp v).cpu.e = s.cpu.e := rfl
@[simp] theorem setSp_h (s : State) (v : Word) : (s.setSp v).cpu.h = s.cpu.h := rfl
@[simp] theorem setSp_l (s : State) (v : Word) : (s.setSp v).cpu.l = s.cpu.l := rfl
@[simp] theorem setSp_flags (s : State) (v : Word) : (s.setSp v).cpu.flags = s.cpu.flags := rfl
@[simp] theorem setSp_sp (s : State) (v : Word) : (s.setSp v).cpu.sp = v := rfl
@[simp] theorem setSp_pc (s : State) (v : Word) : (s.setSp v).cpu.pc = s.cpu.pc := rfl
@[simp] theorem setSp_ime (s : State) (v : Word) : (s.setSp v).cpu.ime = s.cpu.ime := rfl
@[simp] theorem setSp_eiPending (s : State) (v : Word) : (s.setSp v).cpu.eiPending = s.cpu.eiPending := rfl
@[simp] theorem setSp_run (s : State) (v : Word) : (s.setSp v).cpu.run = s.cpu.run := rfl
@[simp] theorem setSp_fault (s : State) (v : Word) : (s.setSp v).cpu.fault = s.cpu.fault := rfl
@[simp] theorem setSp_irq (s : State) (v : Word) : (s.setSp v).irq = s.irq := rfl
@[simp] theorem setSp_timer (s : State) (v : Word) : (s.setSp v).timer = s.timer := rfl
@[simp] theorem setSp_mbc (s : State) (v : Word) : (s.setSp v).mbc = s.mbc := rfl
@[simp] theorem setSp_ppu (s : State) (v : Word) : (s.setSp v).ppu = s.ppu := rfl
@[simp] theorem setSp_p1Select (s : State) (v : Word) : (s.setSp v).p1Select = s.p1Select := rfl
@[simp] theorem setSp_bootMapped (s : State) (v : Word) : (s.setSp v).bootMapped = s.bootMapped := rfl
@[simp] theorem setSp_mem (s : State) (v : Word) : (s.setSp v).mem = s.mem := rfl
@[simp] theorem setSp_cart (s : State) (v : Word) : (s.setSp v).cart = s.cart := rfl
@[simp] theorem setSp_boot (s : State) (v : Word) : (s.setSp v).boot = s.boot := rfl
@[simp] theorem setSp_config (s : State) (v : Word) : (s.setSp v).config = s.config := rfl
@[simp] theorem setSp_cycles (s : State) (v : Word) : (s.setSp v).cycles = s.cycles := rfl
@[simp] theorem setSp_warnings (s : State) (v : Word) : (s.setSp v).warnings = s.warnings := rfl
@[simp] theorem setSp_dmaWritten (s : State) (v : Word) : (s.setSp v).dmaWritten = s.dmaWritten := rfl
@[simp] theorem setSp_joypadEvents (s : State) (v : Word) : (s.setSp v).joypadEvents = s.joypadEvents := rfl
@[simp] theorem setSp_draws (s : State) (v : Word) : (s.setSp v).draws = s.draws := rfl
@[simp] theorem setSp_busRead (s : State) (v : Word) (joy : BitVec 4) (x : Word) :
    busRead joy (s.setSp v) x = busRead joy s x := busRead_besides s _ _ joy x
@[simp] theorem setSp_readByte (s : State) (v : Word) (k : Nat) (x : Word) :
    (s.setSp v).readByte k x = s.readByte k x := busRead_besides s _ _ _ x

/-! ### `setIme` -/

@[simp] theorem setIme_a (s : State) (i e : Bool) : (s.setIme i e).cpu.a = s.cpu.a := rfl
@[simp] theorem setIme_b (s : State) (i e : Bool) : (s.setIme i e).cpu.b = s.cpu.b := rfl
@[simp] theorem setIme_c (s : State) (i e : Bool) : (s.setIme i e).cpu.c = s.cpu.c := rfl
@[simp] theorem setIme_d (s : State) (i e : Bool) : (s.setIme i e).cpu.d = s.cpu.d := rfl
@[simp] theorem setIme_e (s : State) (i e : Bool) : (s.setIme i e).cpu.e = s.cpu.e := rfl
@[simp] theorem setIme_h (s : State) (i e : Bool) : (s.setIme i e).cpu.h = s.cpu.h := rfl
@[simp] theorem setIme_l (s : State) (i e : Bool) : (s.setIme i e).cpu.l = s.cpu.l := rfl
@[simp] theorem setIme_flags (s : State) (i e : Bool) : (s.setIme i e).cpu.flags = s.cpu.flags := rfl
@[simp] theorem setIme_sp (s : State) (i e : Bool) : (s.setIme i e).cpu.sp = s.cpu.sp := rfl
@[simp] theorem setIme_pc (s : State) (i e : Bool) : (s.setIme i e).cpu.pc = s.cpu.pc := rfl
@[simp] theorem setIme_ime (s : State) (i e : Bool) : (s.setIme i e).cpu.ime = i := rfl
@[simp] theorem setIme_eiPending (s : State) (i e : Bool) : (s.setIme i e).cpu.eiPending = e := rfl
@[simp] theorem setIme_run (s : State) (i e : Bool) : (s.setIme i e).cpu.run = s.cpu.run := rfl
@[simp] theorem setIme_fault (s : State) (i e : Bool) : (s.setIme i e).cpu.fault = s.cpu.fault := rfl
@[simp] theorem setIme_irq (s : State) (i e : Bool) : (s.setIme i e).irq = s.irq := rfl
@[simp] theorem setIme_timer (s : State) (i e : Bool) : (s.setIme i e).timer = s.timer := rfl
@[simp] theorem setIme_mbc (s : State) (i e : Bool) : (s.setIme i e).mbc = s.mbc := rfl
@[simp] theorem setIme_ppu (s : State) (i e : Bool) : (s.setIme i e).ppu = s.ppu := rfl
@[simp] theorem setIme_p1Select (s : State) (i e : Bool) : (s.setIme i e).p1Select = s.p1Select := rfl
@[simp] theorem setIme_bootMapped (s : State) (i e : Bool) : (s.setIme i e).bootMapped = s.bootMapped := rfl
@[simp] theorem setIme_mem (s : State) (i e : Bool) : (s.setIme i e).mem = s.mem := rfl
@[simp] theorem setIme_cart (s : State) (i e : Bool) : (s.setIme i e).cart = s.cart := rfl
@[simp] theorem setIme_boot (s : State) (i e : Bool) : (s.setIme i e).boot = s.boot := rfl
@[simp] theorem setIme_config (s : State) (i e : Bool) : (s.setIme i e).config = s.config := rfl
@[simp] theorem setIme_cycles (s : State) (i e : Bool) : (s.setIme i e).cycles = s.cycles := rfl
@[simp] theorem setIme_warnings (s : State) (i e : Bool) : (s.setIme i e).warnings = s.warnings := rfl
@[simp] theorem setIme_dmaWritten (s : State) (i e : Bool) : (s.setIme i e).dmaWritten = s.dmaWritten := rfl
@[simp] theorem setIme_joypadEvents (s : State) (i e : Bool) : (s.setIme i e).joypadEvents = s.joypadEvents := rfl
@[simp] theorem setIme_draws (s : State) (i e : Bool) : (s.setIme i e).draws = s.draws := rfl
@[simp] theorem setIme_busRead (s : State) (i e : Bool) (joy : BitVec 4) (x : Word) :
    busRead joy (s.setIme i e) x = busRead joy s x := busRead_besides s _ _ joy x
@[simp] theorem setIme_readByte (s : State) (i e : Bool) (k : Nat) (x : Word) :
    (s.setIme i e).readByte k x = s.readByte k x := busRead_besides s _ _ _ x

/-! ### `setRun` -/

@[simp] theorem setRun_a (s : State) (r : RunState) : (s.setRun r).cpu.a = s.cpu.a := rfl
@[simp] theorem setRun_b (s : State) (r : RunState) : (s.setRun r).cpu.b = s.cpu.b := rfl
@[simp] theorem setRun_c (s : State) (r : RunState) : (s.setRun r).cpu.c = s.cpu.c := rfl
@[simp] theorem setRun_d (s : State) (r : RunState) : (s.setRun r).cpu.d = s.cpu.d := rfl
@[simp] theorem setRun_e (s : State) (r : RunState) : (s.setRun r).cpu.e = s.cpu.e := rfl
@[simp] theorem setRun_h (s : State) (r : RunState) : (s.setRun r).cpu.h = s.cpu.h := rfl
@[simp] theorem setRun_l (s : State) (r : RunState) : (s.setRun r).cpu.l = s.cpu.l := rfl
@[simp] theorem setRun_flags (s : State) (r : RunState) : (s.setRun r).cpu.flags = s.cpu.flags := rfl
@[simp] theorem setRun_sp (s : State) (r : RunState) : (s.setRun r).cpu.sp = s.cpu.sp := rfl
@[simp] theorem setRun_pc (s : State) (r : RunState) : (s.setRun r).cpu.pc = s.cpu.pc := rfl
@[simp] theorem setRun_ime (s : State) (r : RunState) : (s.setRun r).cpu.ime = s.cpu.ime := rfl
@[simp] theorem setRun_eiPending (s : State) (r : RunState) : (s.setRun r).cpu.eiPending = s.cpu.eiPending := rfl
@[simp] theorem setRun_run (s : State) (r : RunState) : (s.setRun r).cpu.run = r := rfl
@[simp] theorem setRun_fault (s : State) (r : RunState) : (s.setRun r).cpu.fault = s.cpu.fault := rfl
@[simp] theorem setRun_irq (s : State) (r : RunState) : (s.setRun r).irq = s.irq := rfl
@[simp] theorem setRun_timer (s : State) (r : RunState) : (s.setRun r).timer = s.timer := rfl
@[simp] theorem setRun_mbc (s : State) (r : RunState) : (s.setRun r).mbc = s.mbc := rfl
@[simp] theorem setRun_ppu (s : State) (r : RunState) : (s.setRun r).ppu = s.ppu := rfl
@[simp] theorem setRun_p1Select (s : State) (r : RunState) : (s.setRun r).p1Select = s.p1Select := rfl
@[simp] theorem setRun_bootMapped (s : State) (r : RunState) : (s.setRun r).bootMapped = s.bootMapped := rfl
@[simp] theorem setRun_mem (s : State) (r : RunState) : (s.setRun r).mem = s.mem := rfl
@[simp] theorem setRun_cart (s : State) (r : RunState) : (s.setRun r).cart = s.cart := rfl
@[simp] theorem setRun_boot (s : State) (r : RunState) : (s.setRun r).boot = s.boot := rfl
@[simp] theorem setRun_config (s : State) (r : RunState) : (s.setRun r).config = s.config := rfl
@[simp] theorem setRun_cycles (s : State) (r : RunState) : (s.setRun r).cycles = s.cycles := rfl
@[simp] theorem setRun_warnings (s : State) (r : RunState) : (s.setRun r).warnings = s.warnings := rfl
@[simp] theorem setRun_dmaWritten (s : State) (r : RunState) : (s.setRun r).dmaWritten = s.dmaWritten := rfl
@[simp] theorem setRun_joypadEvents (s : State) (r : RunState) : (s.setRun r).joypadEvents = s.joypadEvents := rfl
@[simp] theorem setRun_draws (s : State) (r : RunState) : (s.setRun r).draws = s.draws := rfl
@[simp] theorem setRun_busRead (s : State) (r : RunState) (joy : BitVec 4) (x : Word) :
    busRead joy (s.setRun r) x = busRead joy s x := busRead_besides s _ _ joy x
@[simp] theorem setRun_readByte (s : State) (r : RunState) (k : Nat) (x : Word) :
    (s.setRun r).readByte k x = s.readByte k x := busRead_besides s _ _ _ x

/-! ### `setBc` -/

@[simp] theorem setBc_a (s : State) (v : Word) : (s.setBc v).cpu.a = s.cpu.a := rfl
@[simp] theorem setBc_b (s : State) (v : Word) : (s.setBc v).cpu.b = hi8 v := rfl
@[simp] theorem setBc_c (s : State) (v : Word) : (s.setBc v).cpu.c = lo8 v := rfl
@[simp] theorem setBc_d (s : State) (v : Word) : (s.setBc v).cpu.d = s.cpu.d := rfl
@[simp] theorem setBc_e (s : State) (v : Word) : (s.setBc v).cpu.e = s.cpu.e := rfl
@[simp] theorem setBc_h (s : State) (v : Word) : (s.setBc v).cpu.h = s.cpu.h := rfl
@[simp] theorem setBc_l (s : State) (v : Word) : (s.setBc v).cpu.l = s.cpu.l := rfl
@[simp] theorem setBc_flags (s : State) (v : Word) : (s.setBc v).cpu.flags = s.cpu.flags := rfl
@[simp] theorem setBc_sp (s : State) (v : Word) : (s.setBc v).cpu.sp = s.cpu.sp := rfl
@[simp] theorem setBc_pc (s : State) (v : Word) : (s.setBc v).cpu.pc = s.cpu.pc := rfl
@[simp] theorem setBc_ime (s : State) (v : Word) : (s.setBc v).cpu.ime = s.cpu.ime := rfl
@[simp] theorem setBc_eiPending (s : State) (v : Word) : (s.setBc v).cpu.eiPending = s.cpu.eiPending := rfl
@[simp] theorem setBc_run (s : State) (v : Word) : (s.setBc v).cpu.run = s.cpu.run := rfl
@[simp] theorem setBc_fault (s : State) (v : Word) : (s.setBc v).cpu.fault = s.cpu.fault := rfl
@[simp] theorem setBc_irq (s : State) (v : Word) : (s.setBc v).irq = s.irq := rfl
@[simp] theorem setBc_timer (s : State) (v : Word) : (s.setBc v).timer = s.timer := rfl
@[simp] theorem setBc_mbc (s : State) (v : Word) : (s.setBc v).mbc = s.mbc := rfl
@[simp] theorem setBc_ppu (s : State) (v : Word) : (s.setBc v).ppu = s.ppu := rfl
@[simp] theorem setBc_p1Select (s : State) (v : Word) : (s.setBc v).p1Select = s.p1Select := rfl
@[simp] theorem setBc_bootMapped (s : State) (v : Word) : (s.setBc v).bootMapped = s.bootMapped := rfl
@[simp] theorem setBc_mem (s : State) (v : Word) : (s.setBc v).mem = s.mem := rfl
@[simp] theorem setBc_cart (s : State) (v : Word) : (s.setBc v).cart = s.cart := rfl
@[simp] theorem setBc_boot (s : State) (v : Word) : (s.setBc v).boot = s.boot := rfl
@[simp] theorem setBc_config (s : State) (v : Word) : (s.setBc v).config = s.config := rfl
@[simp] theorem setBc_cycles (s : State) (v : Word) : (s.setBc v).cycles = s.cycles := rfl
@[simp] theorem setBc_warnings (s : State) (v : Word) : (s.setBc v).warnings = s.warnings := rfl
@[simp] theorem setBc_dmaWritten (s : State) (v : Word) : (s.setBc v).dmaWritten = s.dmaWritten := rfl
@[simp] theorem setBc_joypadEvents (s : State) (v : Word) : (s.setBc v).joypadEvents = s.joypadEvents := rfl
@[simp] theorem setBc_draws (s : State) (v : Word) : (s.setBc v).draws = s.draws := rfl
@[simp] theorem setBc_busRead (s : State) (v : Word) (joy : BitVec 4) (x : Word) :
    busRead joy (s.setBc v) x = busRead joy s x := busRead_besides s _ _ joy x
@[simp] theorem setBc_readByte (s : State) (v : Word) (k : Nat) (x : Word) :
    (s.setBc v).readByte k x = s.readByte k x := busRead_besides s _ _ _ x

/-! ### `setDe` -/

@[simp] theorem setDe_a (s : State) (v : Word) : (s.setDe v).cpu.a = s.cpu.a := rfl
@[simp] theorem setDe_b (s : State) (v : Word) : (s.setDe v).cpu.b = s.cpu.b := rfl
@[simp] theorem setDe_c (s : State) (v : Word) : (s.setDe v).cpu.c = s.cpu.c := rfl
@[simp] theorem setDe_d (s : State) (v : Word) : (s.setDe v).cpu.d = hi8 v := rfl
@[simp] theorem setDe_e (s : State) (v : Word) : (s.setDe v).cpu.e = lo8 v := rfl
@[simp] theorem setDe_h (s : State) (v : Word) : (s.setDe v).cpu.h = s.cpu.h := rfl
@[simp] theorem setDe_l (s : State) (v : Word) : (s.setDe v).cpu.l = s.cpu.l := rfl
@[simp] theorem setDe_flags (s : State) (v : Word) : (s.setDe v).cpu.flags = s.cpu.flags := rfl
@[simp] theorem setDe_sp (s : State) (v : Word) : (s.setDe v).cpu.sp = s.cpu.sp := rfl
@[simp] theorem setDe_pc (s : State) (v : Word) : (s.setDe v).cpu.pc = s.cpu.pc := rfl
@[simp] theorem setDe_ime (s : State) (v : Word) : (s.setDe v).cpu.ime = s.cpu.ime := rfl
@[simp] theorem setDe_eiPending (s : State) (v : Word) : (s.setDe v).cpu.eiPending = s.cpu.eiPending := rfl
@[simp] theorem setDe_run (s : State) (v : Word) : (s.setDe v).cpu.run = s.cpu.run := rfl
@[simp] theorem setDe_fault (s : State) (v : Word) : (s.setDe v).cpu.fault = s.cpu.fault := rfl
@[simp] theorem setDe_irq (s : State) (v : Word) : (s.setDe v).irq = s.irq := rfl
@[simp] theorem setDe_timer (s : State) (v : Word) : (s.setDe v).timer = s.timer := rfl
@[simp] theorem setDe_mbc (s : State) (v : Word) : (s.setDe v).mbc = s.mbc := rfl
@[simp] theorem setDe_ppu (s : State) (v : Word) : (s.setDe v).ppu = s.ppu := rfl
@[simp] theorem setDe_p1Select (s : State) (v : Word) : (s.setDe v).p1Select = s.p1Select := rfl
@[simp] theorem setDe_bootMapped (s : State) (v : Word) : (s.setDe v).bootMapped = s.bootMapped := rfl
@[simp] theorem setDe_mem (s : State) (v : Word) : (s.setDe v).mem = s.mem := rfl
@[simp] theorem setDe_cart (s : State) (v : Word) : (s.setDe v).cart = s.cart := rfl
@[simp] theorem setDe_boot (s : State) (v : Word) : (s.setDe v).boot = s.boot := rfl
@[simp] theorem setDe_config (s : State) (v : Word) : (s.setDe v).config = s.config := rfl
@[simp] theorem setDe_cycles (s : State) (v : Word) : (s.setDe v).cycles = s.cycles := rfl
@[simp] theorem setDe_warnings (s : State) (v : Word) : (s.setDe v).warnings = s.warnings := rfl
@[simp] theorem setDe_dmaWritten (s : State) (v : Word) : (s.setDe v).dmaWritten = s.dmaWritten := rfl
@[simp] theorem setDe_joypadEvents (s : State) (v : Word) : (s.setDe v).joypadEvents = s.joypadEvents := rfl
@[simp] theorem setDe_draws (s : State) (v : Word) : (s.setDe v).draws = s.draws := rfl
@[simp] theorem setDe_busRead (s : State) (v : Word) (joy : BitVec 4) (x : Word) :
    busRead joy (s.setDe v) x = busRead joy s x := busRead_besides s _ _ joy x
@[simp] theorem setDe_readByte (s : State) (v : Word) (k : Nat) (x : Word) :
    (s.setDe v).readByte k x = s.readByte k x := busRead_besides s _ _ _ x

/-! ### `setHl` -/

@[simp] theorem setHl_a (s : State) (v : Word) : (s.setHl v).cpu.a = s.cpu.a := rfl
@[simp] theorem setHl_b (s : State) (v : Word) : (s.setHl v).cpu.b = s.cpu.b := rfl
@[simp] theorem setHl_c (s : State) (v : Word) : (s.setHl v).cpu.c = s.cpu.c := rfl
@[simp] theorem setHl_d (s : State) (v : Word) : (s.setHl v).cpu.d = s.cpu.d := rfl
@[simp] theorem setHl_e (s : State) (v : Word) : (s.setHl v).cpu.e = s.cpu.e := rfl
@[simp] theorem setHl_h (s : State) (v : Word) : (s.setHl v).cpu.h = hi8 v := rfl
@[simp] theorem setHl_l (s : State) (v : Word) : (s.setHl v).cpu.l = lo8 v := rfl
@[simp] theorem setHl_flags (s : State) (v : Word) : (s.setHl v).cpu.flags = s.cpu.flags := rfl
@[simp] theorem setHl_sp (s : State) (v : Word) : (s.setHl v).cpu.sp = s.cpu.sp := rfl
@[simp] theorem setHl_pc (s : State) (v : Word) : (s.setHl v).cpu.pc = s.cpu.pc := rfl
@[simp] theorem setHl_ime (s : State) (v : Word) : (s.setHl v).cpu.ime = s.cpu.ime := rfl
@[simp] theorem setHl_eiPending (s : State) (v : Word) : (s.setHl v).cpu.eiPending = s.cpu.eiPending := rfl
@[simp] theorem setHl_run (s : State) (v : Word) : (s.setHl v).cpu.run = s.cpu.run := rfl
@[simp] theorem setHl_fault (s : State) (v : Word) : (s.setHl v).cpu.fault = s.cpu.fault := rfl
@[simp] theorem setHl_irq (s : State) (v : Word) : (s.setHl v).irq = s.irq := rfl
@[simp] theorem setHl_timer (s : State) (v : Word) : (s.setHl v).timer = s.timer := rfl
@[simp] theorem setHl_mbc (s : State) (v : Word) : (s.setHl v).mbc = s.mbc := rfl
@[simp] theorem setHl_ppu (s : State) (v : Word) : (s.setHl v).ppu = s.ppu := rfl
@[simp] theorem setHl_p1Select (s : State) (v : Word) : (s.setHl v).p1Select = s.p1Select := rfl
@[simp] theorem setHl_bootMapped (s : State) (v : Word) : (s.setHl v).bootMapped = s.bootMapped := rfl
@[simp] theorem setHl_mem (s : State) (v : Word) : (s.setHl v).mem = s.mem := rfl
@[simp] theorem setHl_cart (s : State) (v : Word) : (s.setHl v).cart = s.cart := rfl
@[simp] theorem setHl_boot (s : State) (v : Word) : (s.setHl v).boot = s.boot := rfl
@[simp] theorem setHl_config (s : State) (v : Word) : (s.setHl v).config = s.config := rfl
@[simp] theorem setHl_cycles (s : State) (v : Word) : (s.setHl v).cycles = s.cycles := rfl
@[simp] theorem setHl_warnings (s : State) (v : Word) : (s.setHl v).warnings = s.warnings := rfl
@[simp] theorem setHl_dmaWritten (s : State) (v : Word) : (s.setHl v).dmaWritten = s.dmaWritten := rfl
@[simp] theorem setHl_joypadEvents (s : State) (v : Word) : (s.setHl v).joypadEvents = s.joypadEvents := rfl
@[simp] theorem setHl_draws (s : State) (v : Word) : (s.setHl v).draws = s.draws := rfl
@[simp] theorem setHl_busRead (s : State) (v : Word) (joy : BitVec 4) (x : Word) :
    busRead joy (s.setHl v) x = busRead joy s x := busRead_besides s _ _ joy x
@[simp] theorem setHl_readByte (s : State) (v : Word) (k : Nat) (x : Word) :
    (s.setHl v).readByte k x = s.readByte k x := busRead_besides s _ _ _ x

/-! ### `setAf` -/

@[simp] theorem setAf_a (s : State) (v : Word) : (s.setAf v).cpu.a = hi8 v := rfl
@[simp] theorem setAf_b (s : State) (v : Word) : (s.setAf v).cpu.b = s.cpu.b := rfl
@[simp] theorem setAf_c (s : State) (v : Word) : (s.setAf v).cpu.c = s.cpu.c := rfl
@[simp] theorem setAf_d (s : State) (v : Word) : (s.setAf v).cpu.d = s.cpu.d := rfl
@[simp] theorem setAf_e (s : State) (v : Word) : (s.setAf v).cpu.e = s.cpu.e := rfl
@[simp] theorem setAf_h (s : State) (v : Word) : (s.setAf v).cpu.h = s.cpu.h := rfl
@[simp] theorem setAf_l (s : State) (v : Word) : (s.setAf v).cpu.l = s.cpu.l := rfl
@[simp] theorem setAf_flags (s : State) (v : Word) : (s.setAf v).cpu.flags = Flags.ofByte (lo8 v) := rfl
@[simp] theorem setAf_sp (s : State) (v : Word) : (s.setAf v).cpu.sp = s.cpu.sp := rfl
@[simp] theorem setAf_pc (s : State) (v : Word) : (s.setAf v).cpu.pc = s.cpu.pc := rfl
@[simp] theorem setAf_ime (s : State) (v : Word) : (s.setAf v).cpu.ime = s.cpu.ime := rfl
@[simp] theorem setAf_eiPending (s : State) (v : Word) : (s.setAf v).cpu.eiPending = s.cpu.eiPending := rfl
@[simp] theorem setAf_run (s : State) (v : Word) : (s.setAf v).cpu.run = s.cpu.run := rfl
@[simp] theorem setAf_fault (s : State) (v : Word) : (s.setAf v).cpu.fault = s.cpu.fault := rfl
@[simp] theorem setAf_irq (s : State) (v : Word) : (s.setAf v).irq = s.irq := rfl
@[simp] theorem setAf_timer (s : State) (v : Word) : (s.setAf v).timer = s.timer := rfl
@[simp] theorem setAf_mbc (s : State) (v : Word) : (s.setAf v).mbc = s.mbc := rfl
@[simp] theorem setAf_ppu (s : State) (v : Word) : (s.setAf v).ppu = s.ppu := rfl
@[simp] theorem setAf_p1Select (s : State) (v : Word) : (s.setAf v).p1Select = s.p1Select := rfl
@[simp] theorem setAf_bootMapped (s : State) (v : Word) : (s.setAf v).bootMapped = s.bootMapped := rfl
@[simp] theorem setAf_mem (s : State) (v : Word) : (s.setAf v).mem = s.mem := rfl
@[simp] theorem setAf_cart (s : State) (v : Word) : (s.setAf v).cart = s.cart := rfl
@[simp] theorem setAf_boot (s : State) (v : Word) : (s.setAf v).boot = s.boot := rfl
@[simp] theorem setAf_config (s : State) (v : Word) : (s.setAf v).config = s.config := rfl
@[simp] theorem setAf_cycles (s : State) (v : Word) : (s.setAf v).cycles = s.cycles := rfl
@[simp] theorem setAf_warnings (s : State) (v : Word) : (s.setAf v).warnings = s.warnings := rfl
@[simp] theorem setAf_dmaWritten (s : State) (v : Word) : (s.setAf v).dmaWritten = s.dmaWritten := rfl
@[simp] theorem setAf_joypadEvents (s : State) (v : Word) : (s.setAf v).joypadEvents = s.joypadEvents := rfl
@[simp] theorem setAf_draws (s : State) (v : Word) : (s.setAf v).draws = s.draws := rfl
@[simp] theorem setAf_busRead (s : State) (v : Word) (joy : BitVec 4) (x : Word) :
    busRead joy (s.setAf v) x = busRead joy s x := busRead_besides s _ _ joy x
@[simp] theorem setAf_readByte (s : State) (v : Word) (k : Nat) (x : Word) :
    (s.setAf v).readByte k x = s.readByte k x := busRead_besides s _ _ _ x

/-! ### `setReg` -/

@[simp] theorem setReg_self (s : State) (r : Reg) : s.setReg r (s.reg r) = s := by
  cases r <;> rfl

@[simp] theorem setReg_reg_same (s : State) (r : Reg) (v : Byte) : (s.setReg r v).reg r = v := by
  cases r <;> rfl

theorem setReg_reg_other (s : State) (r q : Reg) (v : Byte) (h : q ≠ r) : (s.setReg r v).reg q = s.reg q := by
  cases r <;> cases q <;> first | rfl | exact absurd rfl h

@[simp] theorem setReg_flags (s : State) (r : Reg) (v : Byte) : (s.setReg r v).cpu.flags = s.cpu.flags := by
  cases r <;> rfl
@[simp] theorem setReg_sp (s : State) (r : Reg) (v : Byte) : (s.setReg r v).cpu.sp = s.cpu.sp := by
  cases r <;> rfl
@[simp] theorem setReg_pc (s : State) (r : Reg) (v : Byte) : (s.setReg r v).cpu.pc = s.cpu.pc := by
  cases r <;> rfl
@[simp] theorem setReg_ime (s : State) (r : Reg) (v : Byte) : (s.setReg r v).cpu.ime = s.cpu.ime := by
  cases r <;> rfl
@[simp] theorem setReg_eiPending (s : State) (r : Reg) (v : Byte) : (s.setReg r v).cpu.eiPending = s.cpu.eiPending := by
  cases r <;> rfl
@[simp] theorem setReg_run (s : State) (r : Reg) (v : Byte) : (s.setReg r v).cpu.run = s.cpu.run := by
  cases r <;> rfl
@[simp] theorem setReg_fault (s : State) (r : Reg) (v : Byte) : (s.setReg r v).cpu.fault = s.cpu.fault := by
  cases r <;> rfl
@[simp] theorem setReg_irq (s : State) (r : Reg) (v : Byte) : (s.setReg r v).irq = s.irq := by
  cases r <;> rfl
@[simp] theorem setReg_timer (s : State) (r : Reg) (v : Byte) : (s.setReg r v).timer = s.timer := by
  cases r <;> rfl
@[simp] theorem setReg_mbc (s : State) (r : Reg) (v : Byte) : (s.setReg r v).mbc = s.mbc := by
  cases r <;> rfl
@[simp] theorem setReg_ppu (s : State) (r : Reg) (v : Byte) : (s.setReg r v).ppu = s.ppu := by
  cases r <;> rfl
@[simp] theorem setReg_p1Select (s : State) (r : Reg) (v : Byte) : (s.setReg r v).p1Select = s.p1Select := by
  cases r <;> rfl
@[simp] theorem setReg_bootMapped (s : State) (r : Reg) (v : Byte) : (s.setReg r v).bootMapped = s.bootMapped := by
  cases r <;> rfl
@[simp] theorem setReg_mem (s : State) (r : Reg) (v : Byte) : (s.setReg r v).mem = s.mem := by
  cases r <;> rfl
@[simp] theorem setReg_cart (s : State) (r : Reg) (v : Byte) : (s.setReg r v).cart = s.cart := by
  cases r <;> rfl
@[simp] theorem setReg_boot (s : State) (r : Reg) (v : Byte) : (s.setReg r v).boot = s.boot := by
  cases r <;> rfl
@[simp] theorem setReg_config (s : State) (r : Reg) (v : Byte) : (s.setReg r v).config = s.config := by
  cases r <;> rfl
@[simp] theorem setReg_cycles (s : State) (r : Reg) (v : Byte) : (s.setReg r v).cycles = s.cycles := by
  cases r <;> rfl
@[simp] theorem setReg_warnings (s : State) (r : Reg) (v : Byte) : (s.setReg r v).warnings = s.warnings := by
  cases r <;> rfl
@[simp] theorem setReg_dmaWritten (s : State) (r : Reg) (v : Byte) : (s.setReg r v).dmaWritten = s.dmaWritten := by
  cases r <;> rfl
@[simp] theorem setReg_joypadEvents (s : State) (r : Reg) (v : Byte) : (s.setReg r v).joypadEvents = s.joypadEvents := by
  cases r <;> rfl
@[simp] theorem setReg_draws (s : State) (r : Reg) (v : Byte) : (s.setReg r v).draws = s.draws := by
  cases r <;> rfl
@[simp] theorem setReg_busRead (s : State) (r : Reg) (v : Byte) (joy : BitVec 4) (x : Word) :
    busRead joy (s.setReg r v) x = busRead joy s x := by
  cases r <;> exact busRead_besides s _ _ joy x
@[simp] theorem setReg_readByte (s : State) (r : Reg) (v : Byte) (k : Nat) (x : Word) :
    (s.setReg r v).readByte k x = s.readByte k x := by
  cases r <;> exact busRead_besides s _ _ _ x

/-! ### `took` -/

@[simp] theorem took_cpu (s : State) (n : Nat) : (s.took n).cpu = s.cpu := rfl
@[simp] theorem took_irq (s : State) (n : Nat) : (s.took n).irq = s.irq := rfl
@[simp] theorem took_timer (s : State) (n : Nat) : (s.took n).timer = s.timer := rfl
@[simp] theorem took_mbc (s : State) (n : Nat) : (s.took n).mbc = s.mbc := rfl
@[simp] theorem took_ppu (s : State) (n : Nat) : (s.took n).ppu = s.ppu := rfl
@[simp] theorem took_p1Select (s : State) (n : Nat) : (s.took n).p1Select = s.p1Select := rfl
@[simp] theorem took_bootMapped (s : State) (n : Nat) : (s.took n).bootMapped = s.bootMapped := rfl
@[simp] theorem took_mem (s : State) (n : Nat) : (s.took n).mem = s.mem := rfl
@[simp] theorem took_cart (s : State) (n : Nat) : (s.took n).cart = s.cart := rfl
@[simp] theorem took_boot (s : State) (n : Nat) : (s.took n).boot = s.boot := rfl
@[simp] theorem took_config (s : State) (n : Nat) : (s.took n).config = s.config := rfl
@[simp] theorem took_cycles (s : State) (n : Nat) : (s.took n).cycles = n := rfl
@[simp] theorem took_warnings (s : State) (n : Nat) : (s.took n).warnings = s.warnings := rfl
@[simp] theorem took_dmaWritten (s : State) (n : Nat) : (s.took n).dmaWritten = s.dmaWritten := rfl
@[simp] theorem took_joypadEvents (s : State) (n : Nat) : (s.took n).joypadEvents = s.joypadEvents := rfl
@[simp] theorem took_draws (s : State) (n : Nat) : (s.took n).draws = s.draws := rfl
@[simp] theorem took_busRead (s : State) (n : Nat) (joy : BitVec 4) (x : Word) :
    busRead joy (s.took n) x = busRead joy s x := busRead_besides s _ _ joy x
@[simp] theorem took_reg (s : State) (n : Nat) (r : Reg) : (s.took n).reg r = s.reg r := by
  cases r <;> rfl

/-! ### The pairs -/

@[simp] theorem setBc_bc (s : State) (v : Word) : (s.setBc v).bc = v := cat_hi8_lo8 v
@[simp] theorem setDe_de (s : State) (v : Word) : (s.setDe v).de = v := cat_hi8_lo8 v
@[simp] theorem setHl_hl (s : State) (v : Word) : (s.setHl v).hl = v := cat_hi8_lo8 v

/-- A pair that is written reads as the value written (10_state.md R11). -/
@[simp] theorem setR16_r16 (s : State) (p : R16) (v : Word) : (s.setR16 p v).r16 p = v := by
  cases p <;> first | rfl | exact cat_hi8_lo8 v

/-- F reads back with its low four bits zero (10_state.md R14). -/
theorem toByte_ofByte (v : Byte) : (Flags.ofByte v).toByte = v &&& 0xF0 := by
  revert v; decide

/-- The flags survive a trip through F. -/
@[simp] theorem ofByte_toByte (f : Flags) : Flags.ofByte f.toByte = f := by
  obtain ⟨z, n, h, c⟩ := f
  cases z <;> cases n <;> cases h <;> cases c <;> rfl

/-- AF that is written reads back with the low four bits of F zero (10_state.md R14; 40_load.md R112). -/
theorem setAf_af (s : State) (v : Word) : (s.setAf v).af = v &&& 0xFFF0 := by
  have h : (s.setAf v).af = cat (hi8 v) ((Flags.ofByte (lo8 v)).toByte) := rfl
  have hm : (0xFFF0 : Word) = cat 0xFF 0xF0 := rfl
  have hh : hi8 v &&& 0xFF = hi8 v := by generalize hi8 v = b; revert b; decide
  rw [h, toByte_ofByte]
  conv_rhs => rw [← cat_hi8_lo8 v, hm, cat_and, hh]

/-- The low four bits of F are zero. -/
theorem toByte_low (f : Flags) : f.toByte &&& 0x0F = 0 := by
  obtain ⟨z, n, h, c⟩ := f
  cases z <;> cases n <;> cases h <;> cases c <;> rfl

end Sys2Proof.Laws
end

