-- ==== Sys2Proof/Laws/Bus.lean ====
section
/-! SUPPORT. Sys2Proof/Laws/Bus.lean: what the bus does: the address map as ranges, what a write leaves alone, and reads after
writes. -/

namespace Sys2Proof.Laws

open Sys2Proof.Machine

/-! ### The address map -/

theorem region_cases (a : Word) :
    (region a = .rom0 ∧ a.toNat ≤ 0x3FFF) ∨ (region a = .romWindow ∧ 0x4000 ≤ a.toNat ∧ a.toNat ≤ 0x7FFF)
    ∨ (region a = .vram ∧ 0x8000 ≤ a.toNat ∧ a.toNat ≤ 0x9FFF) ∨ (region a = .eram ∧ 0xA000 ≤ a.toNat ∧ a.toNat ≤ 0xBFFF)
    ∨ (region a = .wram ∧ 0xC000 ≤ a.toNat ∧ a.toNat ≤ 0xDFFF) ∨ (region a = .echo ∧ 0xE000 ≤ a.toNat ∧ a.toNat ≤ 0xFDFF)
    ∨ (region a = .oam ∧ 0xFE00 ≤ a.toNat ∧ a.toNat ≤ 0xFE9F) ∨ (region a = .unmapped ∧ 0xFEA0 ≤ a.toNat ∧ a.toNat ≤ 0xFEFF)
    ∨ (region a = .io ∧ 0xFF00 ≤ a.toNat ∧ a.toNat ≤ 0xFF7F) ∨ (region a = .hram ∧ 0xFF80 ≤ a.toNat ∧ a.toNat ≤ 0xFFFE)
    ∨ (region a = .ie ∧ a.toNat = 0xFFFF) := by
  have := a.isLt
  unfold region
  split
  · exact .inl ⟨rfl, by omega⟩
  split
  · exact .inr (.inl ⟨rfl, by omega, by omega⟩)
  split
  · exact .inr (.inr (.inl ⟨rfl, by omega, by omega⟩))
  split
  · exact .inr (.inr (.inr (.inl ⟨rfl, by omega, by omega⟩)))
  split
  · exact .inr (.inr (.inr (.inr (.inl ⟨rfl, by omega, by omega⟩))))
  split
  · exact .inr (.inr (.inr (.inr (.inr (.inl ⟨rfl, by omega, by omega⟩)))))
  split
  · exact .inr (.inr (.inr (.inr (.inr (.inr (.inl ⟨rfl, by omega, by omega⟩))))))
  split
  · exact .inr (.inr (.inr (.inr (.inr (.inr (.inr (.inl ⟨rfl, by omega, by omega⟩)))))))
  split
  · exact .inr (.inr (.inr (.inr (.inr (.inr (.inr (.inr (.inl ⟨rfl, by omega, by omega⟩))))))))
  split
  · exact .inr (.inr (.inr (.inr (.inr (.inr (.inr (.inr (.inr (.inl ⟨rfl, by omega, by omega⟩)))))))))
  · exact .inr (.inr (.inr (.inr (.inr (.inr (.inr (.inr (.inr (.inr ⟨rfl, by omega⟩)))))))))

/-- The cell that an address names, as a number. -/
theorem mirrored_toNat (a : Word) :
    (mirrored a).toNat = if region a = .echo then a.toNat - 0x2000 else a.toNat := by
  unfold mirrored
  by_cases h : region a = .echo
  · have := region_cases a
    simp only [h, if_true, reduceCtorEq, false_and, false_or, true_and, or_false] at this ⊢
    have h2 := a.isLt
    rw [BitVec.toNat_sub]
    have : (0x2000 : Word).toNat = 0x2000 := rfl
    omega
  · simp only [h, if_false]

/-! ### The I/O registers -/

/-- The address of a named I/O register; an unassigned one has none. -/
def ioAddr : IoReg → Word
  | .p1 => 0xFF00
  | .div => 0xFF04
  | .tima => 0xFF05
  | .tma => 0xFF06
  | .tac => 0xFF07
  | .intFlag => 0xFF0F
  | .lcdc => 0xFF40
  | .stat => 0xFF41
  | .scy => 0xFF42
  | .scx => 0xFF43
  | .ly => 0xFF44
  | .lyc => 0xFF45
  | .dma => 0xFF46
  | .bgp => 0xFF47
  | .obp0 => 0xFF48
  | .obp1 => 0xFF49
  | .wy => 0xFF4A
  | .wx => 0xFF4B
  | .unassigned => 0

theorem eq_ioAddr (a : Word) (h : ioReg a ≠ .unassigned) : a = ioAddr (ioReg a) := by
  by_cases h0 : a = 0xFF00
  · subst h0; rfl
  by_cases h1 : a = 0xFF04
  · subst h1; rfl
  by_cases h2 : a = 0xFF05
  · subst h2; rfl
  by_cases h3 : a = 0xFF06
  · subst h3; rfl
  by_cases h4 : a = 0xFF07
  · subst h4; rfl
  by_cases h5 : a = 0xFF0F
  · subst h5; rfl
  by_cases h6 : a = 0xFF40
  · subst h6; rfl
  by_cases h7 : a = 0xFF41
  · subst h7; rfl
  by_cases h8 : a = 0xFF42
  · subst h8; rfl
  by_cases h9 : a = 0xFF43
  · subst h9; rfl
  by_cases h10 : a = 0xFF44
  · subst h10; rfl
  by_cases h11 : a = 0xFF45
  · subst h11; rfl
  by_cases h12 : a = 0xFF46
  · subst h12; rfl
  by_cases h13 : a = 0xFF47
  · subst h13; rfl
  by_cases h14 : a = 0xFF48
  · subst h14; rfl
  by_cases h15 : a = 0xFF49
  · subst h15; rfl
  by_cases h16 : a = 0xFF4A
  · subst h16; rfl
  by_cases h17 : a = 0xFF4B
  · subst h17; rfl
  exact absurd (by simp only [ioReg, if_neg h0, if_neg h1, if_neg h2, if_neg h3, if_neg h4, if_neg h5, if_neg h6, if_neg h7, if_neg h8, if_neg h9, if_neg h10, if_neg h11, if_neg h12, if_neg h13, if_neg h14, if_neg h15, if_neg h16, if_neg h17]) h

/-- Two addresses of the same named register are the same address. -/
theorem ioReg_inj (a b : Word) (h : ioReg a = ioReg b) (ha : ioReg a ≠ .unassigned) : a = b := by
  rw [eq_ioAddr a ha, h, ← eq_ioAddr b (h ▸ ha)]

/-! ### What a bus write leaves alone -/

theorem ioWrite_shape (s : State) (a : Word) (v : Byte) : ∃ irq timer ppu p1 mem d, ioWrite s a v =
    { s with irq := irq, timer := timer, ppu := ppu, p1Select := p1, mem := mem, dmaWritten := d } := by
  unfold ioWrite
  cases ioReg a <;> cases s.config.ioUnassigned <;> cases s.config.dma <;> exact ⟨_, _, _, _, _, _, rfl⟩

/-- Everything a bus write can do: it never touches the CPU, the cartridge, the overlay, the parameters or the counters. -/
theorem busWrite_shape (s : State) (a : Word) (v : Byte) : ∃ irq timer mbc ppu p1 mem w d, busWrite s a v =
    { s with irq := irq, timer := timer, mbc := mbc, ppu := ppu, p1Select := p1, mem := mem, warnings := w,
             dmaWritten := d } := by
  unfold busWrite
  cases region a
  case io =>
    obtain ⟨_, _, _, _, _, _, h⟩ := ioWrite_shape s a v
    exact ⟨_, _, _, _, _, _, _, _, h⟩
  case eram => unfold eramWrite; cases eramAnswers s a <;> exact ⟨_, _, _, _, _, _, _, _, rfl⟩
  case rom0 => unfold bankCommand; cases s.cart.kind <;> exact ⟨_, _, _, _, _, _, _, _, rfl⟩
  case romWindow => unfold bankCommand; cases s.cart.kind <;> exact ⟨_, _, _, _, _, _, _, _, rfl⟩
  all_goals exact ⟨_, _, _, _, _, _, _, _, rfl⟩

@[simp] theorem busWrite_cpu (s : State) (a : Word) (v : Byte) : (busWrite s a v).cpu = s.cpu := by
  obtain ⟨_, _, _, _, _, _, _, _, h⟩ := busWrite_shape s a v
  rw [h]

@[simp] theorem busWrite_bootMapped (s : State) (a : Word) (v : Byte) : (busWrite s a v).bootMapped = s.bootMapped := by
  obtain ⟨_, _, _, _, _, _, _, _, h⟩ := busWrite_shape s a v
  rw [h]

@[simp] theorem busWrite_cart (s : State) (a : Word) (v : Byte) : (busWrite s a v).cart = s.cart := by
  obtain ⟨_, _, _, _, _, _, _, _, h⟩ := busWrite_shape s a v
  rw [h]

@[simp] theorem busWrite_boot (s : State) (a : Word) (v : Byte) : (busWrite s a v).boot = s.boot := by
  obtain ⟨_, _, _, _, _, _, _, _, h⟩ := busWrite_shape s a v
  rw [h]

@[simp] theorem busWrite_config (s : State) (a : Word) (v : Byte) : (busWrite s a v).config = s.config := by
  obtain ⟨_, _, _, _, _, _, _, _, h⟩ := busWrite_shape s a v
  rw [h]

@[simp] theorem busWrite_cycles (s : State) (a : Word) (v : Byte) : (busWrite s a v).cycles = s.cycles := by
  obtain ⟨_, _, _, _, _, _, _, _, h⟩ := busWrite_shape s a v
  rw [h]

@[simp] theorem busWrite_joypadEvents (s : State) (a : Word) (v : Byte) : (busWrite s a v).joypadEvents = s.joypadEvents := by
  obtain ⟨_, _, _, _, _, _, _, _, h⟩ := busWrite_shape s a v
  rw [h]

@[simp] theorem busWrite_draws (s : State) (a : Word) (v : Byte) : (busWrite s a v).draws = s.draws := by
  obtain ⟨_, _, _, _, _, _, _, _, h⟩ := busWrite_shape s a v
  rw [h]


/-- The CPU and the cycle count play no part in a bus write. -/
theorem busWrite_besides (s : State) (c : Cpu) (n : Nat) (a : Word) (v : Byte) :
    busWrite { s with cpu := c, cycles := n } a v = { busWrite s a v with cpu := c, cycles := n } := by
  unfold busWrite
  cases region a
  case io =>
    simp only [ioWrite]
    cases ioReg a <;> first | rfl | (cases s.config.ioUnassigned <;> rfl)
  case eram =>
    have h : eramAnswers { s with cpu := c, cycles := n } a = eramAnswers s a := rfl
    simp only [eramWrite, h]
    cases eramAnswers s a <;> rfl
  case rom0 => simp only [bankCommand]; cases s.cart.kind <;> rfl
  case romWindow => simp only [bankCommand]; cases s.cart.kind <;> rfl
  all_goals rfl

/-- The CPU plays no part in a bus write. -/
theorem busWrite_withCpu (s : State) (c : Cpu) (a : Word) (v : Byte) :
    busWrite { s with cpu := c } a v = { busWrite s a v with cpu := c } :=
  (busWrite_besides s c s.cycles a v).trans (by rw [← busWrite_cycles s a v])

theorem busWrite_setSp (s : State) (sp a : Word) (v : Byte) : busWrite (s.setSp sp) a v = (busWrite s a v).setSp sp :=
  (busWrite_withCpu s { s.cpu with sp := sp } a v).trans (by unfold State.setSp; rw [busWrite_cpu])

/-! ### Reads after writes -/

/-- A read of storage depends on the byte under the cell's key alone. -/
theorem busRead_storage (joy : BitVec 4) (s : State) (x : Word) (h : plainStorage x = true) :
    busRead joy s x = Memory.read s.mem (mirrored x).toNat := by
  have hb : bootByte s x = none := by
    have hx : 0x100 ≤ x.toNat := by
      have := region_cases x
      unfold plainStorage at h
      by_contra hc
      rcases this with ⟨hr, _⟩ | this
      · rw [hr] at h; exact absurd h (by decide)
      · omega
    unfold bootByte
    cases s.bootMapped <;> cases s.boot <;> try rfl
    exact Vector.getElem?_eq_none (by omega)
  unfold busRead plainStorage at *
  rw [hb]
  cases hr : region x <;> rw [hr] at h <;> first | rfl | exact absurd h (by decide)

theorem busWrite_storage (s : State) (a : Word) (v : Byte) (h : plainStorage a = true) :
    busWrite s a v = { s with mem := Memory.write s.mem (mirrored a).toNat v } := by
  unfold busWrite plainStorage at *
  cases hr : region a <;> rw [hr] at h <;> first | rfl | exact absurd h (by decide)

/-- Plain storage reads back the byte last stored there (20_memory.md R50, R51, R52, R56). -/
theorem busRead_busWrite_same (joy : BitVec 4) (s : State) (a : Word) (v : Byte) (h : plainStorage a = true) :
    busRead joy (busWrite s a v) a = v := by
  rw [busRead_storage joy _ a h, busWrite_storage s a v h]
  exact read_write_same _ _ _

/-- An address and its mirrored cell are plain storage together, and the cell is no echo address. -/
theorem mirrored_range (a : Word) (h : plainStorage a = true) :
    (∀ n, Memory.isRamKey n (mirrored a).toNat = true) ∧ (mirrored a).toNat < 0x10000 ∧
      ((mirrored a).toNat < 0xFF00 ∨ 0xFF80 ≤ (mirrored a).toNat) := by
  have hm := mirrored_toNat a
  have hc := region_cases a
  unfold plainStorage at h
  rw [← forall_and_right]
  intro n
  unfold Memory.isRamKey
  simp only [Bool.or_eq_true, Bool.and_eq_true, decide_eq_true_eq]
  cases hr : region a <;> simp only [hr] at h hm hc <;>
    simp only [reduceCtorEq, false_and, false_or, or_false, true_and, if_true, if_false] at hc hm h <;> omega

/-- What a read needs of the state. -/
theorem busRead_congr (joy : BitVec 4) (s t : State) (x : Word) (hb : t.bootMapped = s.bootMapped) (hi : t.boot = s.boot)
    (hc : t.cart = s.cart) (hm : t.mbc = s.mbc ∨ (region x ≠ .romWindow ∧ region x ≠ .eram))
    (hp : t.config = s.config)
    (hmem : ∀ k, (k = (mirrored x).toNat ∧ region x ≠ .eram ∧ region x ≠ .io ∨ k = eramKey x ∧ region x = .eram) →
      Memory.read t.mem k = Memory.read s.mem k)
    (hio : region x = .io → ioRead joy t x = ioRead joy s x) (hie : region x = .ie → t.irq.enable = s.irq.enable) :
    busRead joy t x = busRead joy s x := by
  have h0 : bootByte t x = bootByte s x := by unfold bootByte; rw [hb, hi]
  unfold busRead
  rw [h0, hp]
  cases bootByte s x
  case some => rfl
  have hc := region_cases x
  cases hr : region x <;>
    simp only [hr, reduceCtorEq, ne_eq, not_true_eq_false, not_false_eq_true, and_true, and_false, or_false, or_true,
      false_or, forall_eq, false_and, true_and, forall_const] at hm hmem hio hie hc ⊢
  case rom0 =>
    unfold romRead romOffset
    rw [‹t.cart = s.cart›]
    cases s.cart.kind <;> simp only [hc, if_true]
  case romWindow => unfold romRead romOffset Mbc.romBank; rw [‹t.cart = s.cart›, hm]
  case eram => unfold eramRead eramAnswers; rw [‹t.cart = s.cart›, hm, hmem]
  case io => exact hio
  case ie => rw [hie]
  all_goals exact hmem

/-- A write of an I/O register leaves every other one as it was. -/
theorem ioRead_ioWrite_other (joy : BitVec 4) (s : State) (a x : Word) (v : Byte) (hax : x ≠ a) :
    ioRead joy (ioWrite s a v) x = ioRead joy s x := by
  have hn : x.toNat ≠ a.toNat := fun h => hax (BitVec.eq_of_toNat_eq h)
  by_cases hs : ioReg x = ioReg a
  · have hu : ioReg a = .unassigned := by
      by_contra hc
      exact hax (ioReg_inj x a hs (hs ▸ hc))
    simp only [ioRead, ioWrite, hs, hu]
    cases hc : s.config.ioUnassigned <;> simp only [hc]
    exact read_write_other _ _ _ _ hn
  · unfold ioWrite
    cases ha : ioReg a <;> rw [ha] at hs
    case unassigned =>
      cases hc : s.config.ioUnassigned <;> simp only
      unfold ioRead
      cases hx : ioReg x <;> simp only [hc] <;> first | exact absurd hx hs | exact read_write_other _ _ _ _ hn
    case dma => cases s.config.dma; simp only [ioRead]
    all_goals
      unfold ioRead
      cases hx : ioReg x <;> first | exact absurd hx hs | rfl

/-- A write leaves every other byte alone (20_memory.md R39, R63): all but the address itself and its mirror; and, when
it is a bank command, the two banked windows. -/
theorem busRead_busWrite_other (joy : BitVec 4) (s : State) (a x : Word) (v : Byte) (hne : mirrored x ≠ mirrored a)
    (hw : 0x8000 ≤ a.toNat ∨ (region x ≠ .romWindow ∧ region x ≠ .eram)) :
    busRead joy (busWrite s a v) x = busRead joy s x := by
  have hn : (mirrored x).toNat ≠ (mirrored a).toNat := fun h => hne (BitVec.eq_of_toNat_eq h)
  have hnx : x ≠ a := fun h => hne (h ▸ rfl)
  have hxk : region x = .eram → 0x10000 ≤ eramKey x := fun _ => by unfold eramKey; omega
  by_cases hs : plainStorage a = true
  · rw [busWrite_storage s a v hs]
    have hrange := mirrored_range a hs
    refine busRead_congr joy s _ x rfl rfl rfl (.inl rfl) rfl ?_ ?_ (fun _ => rfl)
    · rintro k (⟨rfl, _⟩ | ⟨rfl, he⟩)
      · exact read_write_other _ _ _ _ hn
      · have := hxk he
        exact read_write_other _ _ _ _ (by omega)
    · intro hr
      have hx := region_cases x
      simp only [hr, reduceCtorEq, false_and, false_or, true_and, or_false] at hx
      unfold ioRead
      cases ioReg x <;> try rfl
      case dma => exact read_write_other _ _ _ _ (by omega)
      case unassigned =>
        cases hc : s.config.ioUnassigned <;> simp only
        exact read_write_other _ _ _ _ (by omega)
  · have hc := region_cases a
    have hx := region_cases x
    unfold plainStorage at hs
    unfold busWrite
    cases hr : region a <;> simp only [hr, reduceCtorEq, not_true_eq_false, not_false_eq_true] at hs hc ⊢ <;>
      simp only [false_and, false_or, true_and, or_false] at hc
    case rom0 =>
      have hw2 := hw.resolve_left (by omega)
      unfold bankCommand
      cases s.cart.kind
      · rfl
      · exact busRead_congr joy s _ x rfl rfl rfl (.inr hw2) rfl (fun _ _ => rfl) (fun _ => rfl) (fun _ => rfl)
    case romWindow =>
      have hw2 := hw.resolve_left (by omega)
      unfold bankCommand
      cases s.cart.kind
      · rfl
      · exact busRead_congr joy s _ x rfl rfl rfl (.inr hw2) rfl (fun _ _ => rfl) (fun _ => rfl) (fun _ => rfl)
    case eram =>
      unfold eramWrite
      cases eramAnswers s a
      · rfl
      rw [if_pos rfl]
      have ha := a.isLt
      have hk : ∀ w : Word, w.toNat ≠ eramKey a := fun w => by
        have := w.isLt
        unfold eramKey
        omega
      refine busRead_congr joy s _ x rfl rfl rfl (.inl rfl) rfl ?_ ?_ (fun _ => rfl)
      · rintro k (⟨rfl, _⟩ | ⟨rfl, he⟩)
        · have := (mirrored x).isLt
          exact read_write_other _ _ _ _ (by show _ ≠ 0x10000 + (a - 0xA000).toNat; omega)
        · simp only [he, reduceCtorEq, false_and, false_or, true_and, or_false] at hx
          have h1 : x.toNat ≠ a.toNat := fun h => hnx (BitVec.eq_of_toNat_eq h)
          refine read_write_other _ _ _ _ ?_
          unfold eramKey
          rw [BitVec.toNat_sub, BitVec.toNat_sub]
          have : (0xA000 : Word).toNat = 0xA000 := rfl
          omega
      · intro hr
        unfold ioRead
        cases ioReg x <;> try rfl
        case dma => exact read_write_other _ _ _ _ (hk x)
        case unassigned =>
          cases hc : s.config.ioUnassigned <;> simp only
          exact read_write_other _ _ _ _ (hk x)
    case io =>
      obtain ⟨irq, timer, ppu, p1, mem, d, h⟩ := ioWrite_shape s a v
      have hme : region x ≠ .io → ∀ k, (k = (mirrored x).toNat ∧ region x ≠ .eram ∧ region x ≠ .io ∨ k = eramKey x ∧ region x = .eram) →
          Memory.read (ioWrite s a v).mem k = Memory.read s.mem k := by
        intro hxi k hk
        have hka : k ≠ a.toNat := by
          have := mirrored_toNat x
          have := x.isLt
          rcases hk with ⟨rfl, _⟩ | ⟨rfl, he⟩
          · rcases hx with ⟨hr, _⟩ | ⟨hr, _⟩ | ⟨hr, _⟩ | ⟨hr, _⟩ | ⟨hr, _⟩ | ⟨hr, _⟩ | ⟨hr, _⟩ | ⟨hr, _⟩ | ⟨hr, _⟩ | ⟨hr, _⟩
              | ⟨hr, _⟩ <;>
              simp only [hr, reduceCtorEq, if_false, if_true, ne_eq, not_true_eq_false] at * <;> omega
          · unfold eramKey; omega
        unfold ioWrite
        cases ioReg a <;> try rfl
        case unassigned =>
          cases s.config.ioUnassigned
          · exact read_write_other _ _ _ _ hka
          · rfl
      refine busRead_congr joy s _ x (by rw [h]) (by rw [h]) (by rw [h]) (.inl (by rw [h])) (by rw [h]) ?_ ?_ ?_
      · intro k hk
        by_cases hxi : region x = .io
        · rw [hxi] at hk
          rcases hk with ⟨_, _, h⟩ | ⟨_, h⟩
          · exact absurd rfl h
          · cases h
        · exact hme hxi k hk
      · exact fun _ => ioRead_ioWrite_other joy s a x v hnx
      · intro _
        unfold ioWrite
        cases ioReg a <;> try rfl
        case unassigned => cases s.config.ioUnassigned <;> rfl
    case ie =>
      refine busRead_congr joy s _ x rfl rfl rfl (.inl rfl) rfl (fun _ _ => rfl) ?_ ?_
      · intro _; unfold ioRead; cases ioReg x <;> rfl
      · intro hxr
        simp only [hxr, reduceCtorEq, false_and, false_or, true_and] at hx
        exact absurd (BitVec.eq_of_toNat_eq (hx.trans hc.symm)) hnx

/-! ### Reads by region -/

/-- The overlay covers only the first 256 addresses (20_memory.md R40). -/
theorem bootByte_above (s : State) (a : Word) (ha : 256 ≤ a.toNat) : bootByte s a = none := by
  unfold bootByte
  split
  · simp
    omega
  · rfl

/-- A read above the overlay, by its region. -/
theorem busRead_above (joy : BitVec 4) (s : State) (a : Word) (ha : 256 ≤ a.toNat) :
    busRead joy s a = match region a with
      | .rom0 | .romWindow => romRead s a
      | .vram | .wram | .echo | .oam | .hram => Memory.read s.mem (mirrored a).toNat
      | .eram => eramRead s a
      | .unmapped => 0xFF
      | .io => ioRead joy s a
      | .ie => s.config.ieHi ++ s.irq.enable := by
  unfold busRead
  split
  · rename_i h
    rw [bootByte_above s a ha] at h
    cases h
  · rfl

/-- The region of an I/O address. -/
theorem region_io (a : Word) (h1 : 0xFF00 ≤ a.toNat) (h2 : a.toNat ≤ 0xFF7F) : region a = .io := by
  simp only [region]; split_ifs <;> first | rfl | omega

/-- The region of an external-RAM address. -/
theorem region_eram (a : Word) (h1 : 0xA000 ≤ a.toNat) (h2 : a.toNat ≤ 0xBFFF) : region a = .eram := by
  simp only [region]; split_ifs <;> first | rfl | omega

/-- The region of an unmapped address. -/
theorem region_unmapped (a : Word) (h1 : 0xFEA0 ≤ a.toNat) (h2 : a.toNat ≤ 0xFEFF) : region a = .unmapped := by
  simp only [region]; split_ifs <;> first | rfl | omega

/-- The region of an echo address. -/
theorem region_echo (a : Word) (h1 : 0xE000 ≤ a.toNat) (h2 : a.toNat ≤ 0xFDFF) : region a = .echo := by
  simp only [region]; split_ifs <;> first | rfl | omega

/-- The region of a ROM address. -/
theorem region_rom (a : Word) (h : a.toNat ≤ 0x7FFF) : region a = .rom0 ∨ region a = .romWindow := by
  simp only [region]; split_ifs <;> simp

end Sys2Proof.Laws
end

