-- ==== Sys2Proof/Laws/Cartridge.lean ====
section
/-! SUPPORT. Sys2Proof/Laws/Cartridge.lean: what a load makes of an image: the canonical form of its cells, the bytes that
they give back, and everything that a successful load check says. -/

namespace Sys2Proof.Laws

open Sys2Proof.Machine

/-- The offsets of an image's cells rise strictly. -/
theorem imageCells_risesFrom (l : List Byte) (o : Nat) : Memory.risesFrom (imageCells l o) o = true := by
  induction l generalizing o with
  | nil => rfl
  | cons v l ih =>
    unfold imageCells
    split
    · exact risesFrom_mono _ _ _ (Nat.le_succ o) (ih (o + 1))
    · simp [Memory.risesFrom, ih]

/-- An image's cells are not zero and lie inside it. -/
theorem imageCells_inside (l : List Byte) (o : Nat) :
    (imageCells l o).all (fun c => c.2 != 0 && decide (c.1 < o + l.length)) = true := by
  induction l generalizing o with
  | nil => rfl
  | cons v l ih =>
    have rest := ih (o + 1)
    unfold imageCells
    split
    · simpa [Nat.add_assoc, Nat.add_comm 1] using rest
    · rename_i h
      simp only [List.all_cons, Bool.and_eq_true]
      exact ⟨by simpa using h, by simpa [Nat.add_assoc, Nat.add_comm 1] using rest⟩

/-- A key below the first is not listed. -/
theorem lookup_below (m : Memory) (low k : Nat) (hk : k < low) (h : Memory.risesFrom m low = true) :
    Memory.lookup m k = none := by
  induction m generalizing low with
  | nil => rfl
  | cons c m ih =>
    obtain ⟨j, v⟩ := c
    simp only [Memory.risesFrom, Bool.and_eq_true, decide_eq_true_eq] at h
    rw [Memory.lookup, if_neg (by omega)]
    exact ih (j + 1) (by omega) h.2

/-- An image's cells give back its bytes. -/
theorem imageCells_lookup (l : List Byte) (o k : Nat) (hk : k < l.length) :
    (Memory.lookup (imageCells l o) (o + k)).getD 0 = l[k] := by
  induction l generalizing o k with
  | nil => simp at hk
  | cons v l ih =>
    cases k with
    | zero =>
      unfold imageCells
      split
      · rw [lookup_below _ (o + 1) _ (by omega) (imageCells_risesFrom l (o + 1))]
        simp [*]
      · simp [Memory.lookup]
    | succ k =>
      have rest := ih (o + 1) k (by simpa using hk)
      rw [show o + 1 + k = o + (k + 1) by omega] at rest
      unfold imageCells
      split
      · simpa using rest
      · rw [Memory.lookup, if_neg (by omega)]
        simpa using rest

/-- Everything that a successful load check says of its cartridge (20_memory.md R70). -/
theorem loadCart_ok (image : List Byte) (c : Cart) (h : loadCart image = .ok c) :
    headerKind image = some c.kind ∧ declaredSize image ≤ image.length ∧ c.wf = true
      ∧ c = { size := image.length, image := imageCells image 0, kind := c.kind, eramSize := headerEram image } := by
  unfold loadCart at h
  split at h
  · cases h
  · rename_i kind hk
    split at h
    · cases h
    · cases h
      refine ⟨hk, by omega, ?_, rfl⟩
      have heram : [0, 2048, 8192, 32768].contains (headerEram image) = true := by
        unfold headerEram
        split <;> decide
      simp only [Cart.wf, imageCells_risesFrom, heram, Bool.true_and]
      simpa using imageCells_inside image 0

end Sys2Proof.Laws
end

