-- ==== Sys2Proof/Laws/Devices.lean ====
section
/-! SUPPORT. Sys2Proof/Laws/Devices.lean: what a bus write keeps of the invariant (Safety.lean), and everything that the
advance of the timer and the PPU can do. -/

namespace Sys2Proof.Laws

open Sys2Proof.Machine

/-! ### A bus write keeps the invariant's parts -/

/-- Storage stays in canonical form, under the keys of 10_state.md R31. -/
theorem busWrite_memOk (s : State) (a : Word) (v : Byte) (h : s.memOk = true) : (busWrite s a v).memOk = true := by
  simp only [State.memOk, Bool.and_eq_true] at h ⊢
  have hs : ∀ k, Memory.isStorageKey s.cart.eramSize k = true → Memory.wf (Memory.write s.mem k v) = true ∧
      (Memory.write s.mem k v).all (fun cell => Memory.isStorageKey s.cart.eramSize cell.1) = true :=
    fun k hk => ⟨write_wf _ _ _ h.1, write_storageKeys _ _ _ _ hk h.2⟩
  have stor : plainStorage a = true → Memory.isStorageKey s.cart.eramSize (mirrored a).toNat = true := fun h => by
    rw [Memory.isStorageKey, (mirrored_range a h).1, Bool.or_true]
  unfold busWrite
  cases hr : region a
  case rom0 | romWindow => unfold bankCommand; cases s.cart.kind <;> exact h
  case vram | wram | echo | oam | hram => exact hs _ (stor (by simp only [plainStorage, hr]))
  case eram =>
    simp only [eramWrite]
    split
    case isTrue hb =>
      refine hs _ ?_
      simp only [eramAnswers, Bool.and_eq_true, decide_eq_true_eq] at hb
      have : Memory.isRamKey s.cart.eramSize (eramKey a) = true := by
        simp only [Memory.isRamKey, Bool.or_eq_true, Bool.and_eq_true, decide_eq_true_eq]
        unfold eramKey
        omega
      rw [Memory.isStorageKey, this, Bool.or_true]
    case isFalse => exact h
  case unmapped => exact h
  case ie => exact h
  case io =>
    have := region_cases a
    have h2 : 0xFF00 ≤ a.toNat ∧ a.toNat ≤ 0xFF7F := by simp [hr] at this; omega
    simp only [ioWrite]
    split <;> (try exact h)
    split
    · refine hs _ ?_
      simp [Memory.isStorageKey, Memory.isIoKey]
      omega
    · exact h

/-- An I/O write leaves the bank controller. -/
@[simp] theorem ioWrite_mbc (s : State) (a : Word) (v : Byte) : (ioWrite s a v).mbc = s.mbc := by
  obtain ⟨_, _, _, _, _, _, h⟩ := ioWrite_shape s a v
  rw [h]

/-- A bank command never selects bank 0 (20_memory.md R44). -/
theorem mbcCommand_bankOk (m : Mbc) (a : Word) (v : Byte) (h : (m.romLo5 != 0) = true) :
    ((mbcCommand m a v).romLo5 != 0) = true := by
  unfold mbcCommand
  split
  · exact h
  · split
    · split
      · rfl
      · simpa using ‹¬ _›
    · split <;> exact h

/-- The bank register stays in 1..31 (10_state.md R26). -/
theorem busWrite_bankOk (s : State) (a : Word) (v : Byte) (h : s.bankOk = true) : (busWrite s a v).bankOk = true := by
  unfold State.bankOk at *
  unfold busWrite
  cases region a
  case rom0 | romWindow =>
    unfold bankCommand
    cases s.cart.kind
    · exact h
    · exact mbcCommand_bankOk s.mbc a v h
  case eram => simp only [eramWrite]; split <;> exact h
  case io => simpa using h
  all_goals exact h

/-- What an I/O write leaves of the PPU's position and of the divider's accumulator. -/
theorem ioWrite_position (s : State) (a : Word) (v : Byte) : (ioWrite s a v).ppu.ly = s.ppu.ly ∧
    (ioWrite s a v).ppu.dot = s.ppu.dot ∧ (ioWrite s a v).ppu.mode3Len = s.ppu.mode3Len ∧
    (s.timer.divAcc < 256 → (ioWrite s a v).timer.divAcc < 256) := by
  unfold ioWrite
  cases ioReg a <;> cases s.config.ioUnassigned <;> cases s.config.dma <;> simp

/-- What a bus write leaves of the PPU's position and of the divider's accumulator. -/
theorem busWrite_position (s : State) (a : Word) (v : Byte) : (busWrite s a v).ppu.ly = s.ppu.ly ∧
    (busWrite s a v).ppu.dot = s.ppu.dot ∧ (busWrite s a v).ppu.mode3Len = s.ppu.mode3Len ∧
    (s.timer.divAcc < 256 → (busWrite s a v).timer.divAcc < 256) := by
  unfold busWrite
  cases region a
  case io => exact ioWrite_position s a v
  case vram | wram | echo | oam | hram | unmapped | ie => exact ⟨rfl, rfl, rfl, fun h => h⟩
  case rom0 | romWindow => unfold bankCommand; cases s.cart.kind <;> exact ⟨rfl, rfl, rfl, fun h => h⟩
  case eram => simp only [eramWrite]; split <;> exact ⟨rfl, rfl, rfl, fun h => h⟩

/-- The PPU's position and draw stay in range. -/
theorem busWrite_positionOk (s : State) (a : Word) (v : Byte) (h : s.ppu.positionOk = true) :
    (busWrite s a v).ppu.positionOk = true := by
  obtain ⟨h1, h2, h3, _⟩ := busWrite_position s a v
  unfold Ppu.positionOk at *
  rw [h1, h2, h3]
  exact h

/-! ### The timer -/

/-- Increments of TIMA change TIMA alone. -/
theorem incTima_shape (t : Timer) (k : Nat) : ∃ v, (Timer.incTima t k).1 = { t with tima := v } := by
  induction k generalizing t with
  | zero => exact ⟨_, rfl⟩
  | succ k ih =>
    unfold Timer.incTima
    split
    · obtain ⟨v, hv⟩ := ih { t with tima := t.tma }
      exact ⟨v, hv⟩
    · obtain ⟨v, hv⟩ := ih { t with tima := t.tima + 1 }
      exact ⟨v, hv⟩

/-- What `k` increments make of TIMA: without an overflow it counts them; after the first overflow the rest of them count
from TMA, back to TMA at each further one (60_exceptions.md R224). -/
theorem incTima_tima (t : Timer) (k : Nat) :
    (t.tima.toNat + k ≤ 255 → (Timer.incTima t k).1.tima.toNat = t.tima.toNat + k ∧ (Timer.incTima t k).2 = false)
    ∧ (255 < t.tima.toNat + k →
        (Timer.incTima t k).1.tima.toNat = t.tma.toNat + (t.tima.toNat + k - 256) % (256 - t.tma.toNat)
        ∧ (Timer.incTima t k).2 = true) := by
  induction k generalizing t with
  | zero => exact ⟨fun _ => ⟨rfl, rfl⟩, fun h => absurd t.tima.isLt (by omega)⟩
  | succ k ih =>
    unfold Timer.incTima
    split
    case isTrue h =>
      have hff : t.tima.toNat = 255 := by rw [h]; rfl
      have htma := t.tma.isLt
      obtain ⟨fits, wraps⟩ := ih { t with tima := t.tma }
      refine ⟨fun hk => by omega, fun _ => ⟨?_, rfl⟩⟩
      rw [hff, show 255 + (k + 1) - 256 = k by omega]
      by_cases hk : t.tma.toNat + k ≤ 255
      · rw [(fits hk).1, Nat.mod_eq_of_lt (by omega)]
      · rw [(wraps (by simp only; omega)).1, Nat.mod_eq_sub_mod (a := k) (by omega)]
        rw [show k - (256 - t.tma.toNat) = t.tma.toNat + k - 256 by omega]
    case isFalse h =>
      have hlt := t.tima.isLt
      have hne : t.tima.toNat ≠ 255 := fun e => h (BitVec.eq_of_toNat_eq e)
      have hs : (t.tima + 1).toNat = t.tima.toNat + 1 := by
        rw [BitVec.toNat_add]
        exact Nat.mod_eq_of_lt (by simpa using (by omega : t.tima.toNat + 1 < 256))
      have step := ih { t with tima := t.tima + 1 }
      simp only [hs] at step
      rw [show t.tima.toNat + (k + 1) = t.tima.toNat + 1 + k by omega]
      exact step

/-- The counter's advance changes TIMA and its accumulator alone. -/
theorem advanceTima_shape (t : Timer) (n : Nat) : ∃ v acc, (t.advanceTima n).1 = { t with tima := v, timaAcc := acc } := by
  unfold Timer.advanceTima
  split
  · obtain ⟨v, hv⟩ := incTima_shape { t with timaAcc := (t.timaAcc + n) % t.period } ((t.timaAcc + n) / t.period)
    exact ⟨v, _, hv⟩
  · exact ⟨_, _, rfl⟩

/-- The timer's advance: the divider as R222 says, TIMA and its accumulator, and the request register. -/
theorem timerAdvance_shape (n : Nat) (s : State) : ∃ v acc r, timerAdvance n s =
    { s with timer := { s.timer.advanceDiv n with tima := v, timaAcc := acc }, irq := { s.irq with request := r } } := by
  obtain ⟨v, acc, h⟩ := advanceTima_shape (s.timer.advanceDiv n) n
  unfold timerAdvance
  simp only [h]
  split
  · exact ⟨v, acc, _, rfl⟩
  · exact ⟨v, acc, _, rfl⟩

/-- The timer's advance while TAC[2] is 1 (R223, R224): `(tima_acc + n) / period` increments, the remainder left, and the
request if one of them overflowed. -/
theorem timerAdvance_enabled (n : Nat) (s : State) (h : s.timer.tac.getLsbD 2 = true) :
    let r := Timer.incTima { s.timer.advanceDiv n with timaAcc := (s.timer.timaAcc + n) % s.timer.period }
      ((s.timer.timaAcc + n) / s.timer.period)
    (timerAdvance n s).timer = r.1
      ∧ (timerAdvance n s).irq = if r.2 then { s.irq with request := s.irq.request ||| 0b00100 } else s.irq := by
  have he : (s.timer.advanceDiv n).advanceTima n =
      Timer.incTima { s.timer.advanceDiv n with timaAcc := (s.timer.timaAcc + n) % s.timer.period }
        ((s.timer.timaAcc + n) / s.timer.period) :=
    if_pos h
  simp only [timerAdvance, he]
  generalize Timer.incTima _ _ = r
  obtain ⟨t, overflowed⟩ := r
  cases overflowed <;> exact ⟨rfl, rfl⟩

/-- The period is positive. -/
theorem period_pos (t : Timer) : 0 < t.period := by
  unfold Timer.period
  split <;> decide

/-! ### The PPU -/

/-- A line start keeps the position, and its draw is in range. -/
theorem lineStart_positionOk (p : Ppu) (h1 : p.ly.toNat < 154) (h2 : p.dot < 456)
    (h3 : 172 ≤ p.mode3Len ∧ p.mode3Len ≤ 289) : p.lineStart.positionOk = true := by
  have := (Config.mode3Extra p.frames p.ly.toNat).isLt
  unfold Ppu.lineStart Ppu.positionOk
  simp only [mode3Draw]
  split <;> simp <;> omega

/-- A tick keeps the position in range. -/
theorem move_positionOk (p : Ppu) (h : p.positionOk = true) : p.move.positionOk = true := by
  simp only [Ppu.positionOk, Bool.and_eq_true, decide_eq_true_eq] at h
  unfold Ppu.move
  split
  · unfold Ppu.nextLine
    split
    · exact lineStart_positionOk _ (by simp) (by simp) (by simp; omega)
    · rename_i h'
      refine lineStart_positionOk _ ?_ (by simp) (by simp; omega)
      have h4 : (p.ly + 1).toNat ≠ 154 := fun e => h' (BitVec.eq_of_toNat_eq e)
      simp at h4 ⊢
      omega
  · simp [Ppu.positionOk]
    omega

/-- Ticks keep the position in range. -/
theorem ppuTicks_positionOk (n : Nat) (x : PpuIrq) (h : x.ppu.positionOk = true) :
    (ppuTicks n x).ppu.positionOk = true := by
  induction n generalizing x with
  | zero => exact h
  | succ n ih => exact ih _ (move_positionOk _ h)

/-- A tick leaves LCDC. -/
theorem move_lcdc (p : Ppu) : p.move.lcdc = p.lcdc := by
  unfold Ppu.move Ppu.nextLine
  split
  · split <;> rfl
  · rfl

/-- Ticks leave LCDC. -/
theorem ppuTicks_lcdc (n : Nat) (x : PpuIrq) : (ppuTicks n x).ppu.lcdc = x.ppu.lcdc := by
  induction n generalizing x with
  | zero => rfl
  | succ n ih => exact (ih _).trans (move_lcdc x.ppu)

/-- The devices' advance leaves LCDC. -/
@[simp] theorem advanceDevices_lcdc (s : State) : (advanceDevices s).ppu.lcdc = s.ppu.lcdc := by
  obtain ⟨v, acc, r, h⟩ := timerAdvance_shape s.cycles s
  simp only [advanceDevices, ppuAdvance, ppuTicks_lcdc, h]

/-- The devices' advance is the timer's and then the PPU's, by the cycles of the step, with one more draw counted (R205). -/
theorem advanceDevices_eq (s : State) :
    advanceDevices s = { ppuAdvance s.cycles (timerAdvance s.cycles s) with draws := s.draws + 1 } := by
  obtain ⟨v, acc, r, h⟩ := timerAdvance_shape s.cycles s
  unfold advanceDevices
  rw [h]
  rfl

/-- Everything that the devices' advance does. -/
theorem advanceDevices_shape (s : State) : ∃ v acc r p,
    advanceDevices s = { s with timer := { s.timer.advanceDiv s.cycles with tima := v, timaAcc := acc }
                                irq := { s.irq with request := r }, ppu := p, draws := s.draws + 1 }
      ∧ (s.ppu.positionOk = true → p.positionOk = true) := by
  obtain ⟨v, acc, r, h⟩ := timerAdvance_shape s.cycles s
  refine ⟨v, acc, _, _, by simp only [advanceDevices, ppuAdvance, h]; rfl, fun hp => ?_⟩
  exact ppuTicks_positionOk _ _ hp

end Sys2Proof.Laws
end

