-- ==== Sys2Proof/Laws/Forms.lean ====
section
/-! SUPPORT. Sys2Proof/Laws/Forms.lean: case analysis over the instructions by form (one case for each format of R71, not one
for each row), and what `exec` is on each form. A proof about all instructions starts with `induction i using
casesByForm`. -/

namespace Sys2Proof.Laws

open Sys2Proof.Machine

/-- Every instruction is one of these forms. -/
theorem casesByForm {P : Instr → Prop}
    (ldRegReg : ∀ (dst : Reg) (src : Reg), P (Instr.ldRegReg dst src))
    (ldRegMem : ∀ (dst : Reg), P (Instr.ldRegMem dst))
    (ldMemReg : ∀ (r : Reg), P (Instr.ldMemReg r))
    (ldRegImm : ∀ (dst : Reg) (n : Byte), P (Instr.ldRegImm dst n))
    (ldAccMem : ∀ (p : R16mem), P (Instr.ldAccMem p))
    (ldMemAcc : ∀ (p : R16mem), P (Instr.ldMemAcc p))
    (ldR16 : ∀ (p : R16) (v : Word), P (Instr.ldR16 p v))
    (push : ∀ (p : R16stk), P (Instr.push p))
    (pop : ∀ (p : R16stk), P (Instr.pop p))
    (aluReg : ∀ (op : AluOp) (r : Reg), P (Instr.aluReg op r))
    (aluMem : ∀ (op : AluOp), P (Instr.aluMem op))
    (aluImm : ∀ (op : AluOp) (n : Byte), P (Instr.aluImm op n))
    (incReg : ∀ (r : Reg), P (Instr.incReg r))
    (decReg : ∀ (r : Reg), P (Instr.decReg r))
    (incR16 : ∀ (p : R16), P (Instr.incR16 p))
    (decR16 : ∀ (p : R16), P (Instr.decR16 p))
    (addHl : ∀ (p : R16), P (Instr.addHl p))
    (rotReg : ∀ (op : RotOp) (r : Reg), P (Instr.rotReg op r))
    (rotMem : ∀ (op : RotOp), P (Instr.rotMem op))
    (bitReg : ∀ (y : Oct) (r : Reg), P (Instr.bitReg y r))
    (bitMem : ∀ (y : Oct), P (Instr.bitMem y))
    (resReg : ∀ (y : Oct) (r : Reg), P (Instr.resReg y r))
    (resMem : ∀ (y : Oct), P (Instr.resMem y))
    (setReg : ∀ (y : Oct) (r : Reg), P (Instr.setReg y r))
    (setMem : ∀ (y : Oct), P (Instr.setMem y))
    (jpCond : ∀ (k : Cond) (a : Word), P (Instr.jpCond k a))
    (jrCond : ∀ (k : Cond) (e : Byte), P (Instr.jrCond k e))
    (callCond : ∀ (k : Cond) (a : Word), P (Instr.callCond k a))
    (retCond : ∀ (k : Cond), P (Instr.retCond k))
    (rst : ∀ (y : Oct), P (Instr.rst y))
    (ld_atHL_d8 : ∀ (n : Byte), P (.ld_atHL_d8 n))
    (ld_A_ata16 : ∀ (a : Word), P (.ld_A_ata16 a))
    (ld_ata16_A : ∀ (a : Word), P (.ld_ata16_A a))
    (ldh_A_ata8 : ∀ (n : Byte), P (.ldh_A_ata8 n))
    (ldh_ata8_A : ∀ (n : Byte), P (.ldh_ata8_A n))
    (ld_A_atC : P (.ld_A_atC))
    (ld_atC_A : P (.ld_atC_A))
    (ld_ata16_SP : ∀ (a : Word), P (.ld_ata16_SP a))
    (ld_SP_HL : P (.ld_SP_HL))
    (inc_atHL : P (.inc_atHL))
    (dec_atHL : P (.dec_atHL))
    (daa : P (.daa))
    (cpl : P (.cpl))
    (scf : P (.scf))
    (ccf : P (.ccf))
    (add_SP_e8 : ∀ (e : Byte), P (.add_SP_e8 e))
    (ld_HL_SPe8 : ∀ (e : Byte), P (.ld_HL_SPe8 e))
    (rlca : P (.rlca))
    (rrca : P (.rrca))
    (rla : P (.rla))
    (rra : P (.rra))
    (jp_a16 : ∀ (a : Word), P (.jp_a16 a))
    (jp_HL : P (.jp_HL))
    (jr_e8 : ∀ (e : Byte), P (.jr_e8 e))
    (call_a16 : ∀ (a : Word), P (.call_a16 a))
    (ret : P (.ret))
    (reti : P (.reti))
    (invalid : ∀ (op : Byte), P (.invalid op))
    (nop : P (.nop))
    (halt : P (.halt))
    (stop : P (.stop))
    (di : P (.di))
    (ei : P (.ei))
    (prefixCb : P (.prefixCb))
    (i : Instr) : P i := by
  cases i
  exacts [
    ldRegReg .b .b, ldRegReg .b .c, ldRegReg .b .d, ldRegReg .b .e, ldRegReg .b .h, ldRegReg .b .l, ldRegReg .b .a,
    ldRegReg .c .b, ldRegReg .c .c, ldRegReg .c .d, ldRegReg .c .e, ldRegReg .c .h, ldRegReg .c .l, ldRegReg .c .a,
    ldRegReg .d .b, ldRegReg .d .c, ldRegReg .d .d, ldRegReg .d .e, ldRegReg .d .h, ldRegReg .d .l, ldRegReg .d .a,
    ldRegReg .e .b, ldRegReg .e .c, ldRegReg .e .d, ldRegReg .e .e, ldRegReg .e .h, ldRegReg .e .l, ldRegReg .e .a,
    ldRegReg .h .b, ldRegReg .h .c, ldRegReg .h .d, ldRegReg .h .e, ldRegReg .h .h, ldRegReg .h .l, ldRegReg .h .a,
    ldRegReg .l .b, ldRegReg .l .c, ldRegReg .l .d, ldRegReg .l .e, ldRegReg .l .h, ldRegReg .l .l, ldRegReg .l .a,
    ldRegReg .a .b, ldRegReg .a .c, ldRegReg .a .d, ldRegReg .a .e, ldRegReg .a .h, ldRegReg .a .l, ldRegReg .a .a,
    ldRegMem .b, ldRegMem .c, ldRegMem .d, ldRegMem .e, ldRegMem .h, ldRegMem .l, ldRegMem .a, ldMemReg .b,
    ldMemReg .c, ldMemReg .d, ldMemReg .e, ldMemReg .h, ldMemReg .l, ldMemReg .a, ldRegImm .b _, ldRegImm .c _,
    ldRegImm .d _, ldRegImm .e _, ldRegImm .h _, ldRegImm .l _, ldRegImm .a _, ld_atHL_d8 _, ldAccMem .bc,
    ldAccMem .de, ldMemAcc .bc, ldMemAcc .de, ldAccMem .hlInc, ldAccMem .hlDec, ldMemAcc .hlInc, ldMemAcc .hlDec,
    ld_A_ata16 _, ld_ata16_A _, ldh_A_ata8 _, ldh_ata8_A _, ld_A_atC, ld_atC_A, ldR16 .bc _, ldR16 .de _, ldR16 .hl _,
    ldR16 .sp _, ld_ata16_SP _, ld_SP_HL, push .bc, push .de, push .hl, push .af, pop .bc, pop .de, pop .hl, pop .af,
    aluReg .add .b, aluReg .add .c, aluReg .add .d, aluReg .add .e, aluReg .add .h, aluReg .add .l, aluReg .add .a,
    aluMem .add, aluImm .add _, aluReg .adc .b, aluReg .adc .c, aluReg .adc .d, aluReg .adc .e, aluReg .adc .h,
    aluReg .adc .l, aluReg .adc .a, aluMem .adc, aluImm .adc _, aluReg .sub .b, aluReg .sub .c, aluReg .sub .d,
    aluReg .sub .e, aluReg .sub .h, aluReg .sub .l, aluReg .sub .a, aluMem .sub, aluImm .sub _, aluReg .sbc .b,
    aluReg .sbc .c, aluReg .sbc .d, aluReg .sbc .e, aluReg .sbc .h, aluReg .sbc .l, aluReg .sbc .a, aluMem .sbc,
    aluImm .sbc _, aluReg .and .b, aluReg .and .c, aluReg .and .d, aluReg .and .e, aluReg .and .h, aluReg .and .l,
    aluReg .and .a, aluMem .and, aluImm .and _, aluReg .xor .b, aluReg .xor .c, aluReg .xor .d, aluReg .xor .e,
    aluReg .xor .h, aluReg .xor .l, aluReg .xor .a, aluMem .xor, aluImm .xor _, aluReg .or .b, aluReg .or .c,
    aluReg .or .d, aluReg .or .e, aluReg .or .h, aluReg .or .l, aluReg .or .a, aluMem .or, aluImm .or _,
    aluReg .cp .b, aluReg .cp .c, aluReg .cp .d, aluReg .cp .e, aluReg .cp .h, aluReg .cp .l, aluReg .cp .a,
    aluMem .cp, aluImm .cp _, incReg .b, incReg .c, incReg .d, incReg .e, incReg .h, incReg .l, incReg .a, inc_atHL,
    decReg .b, decReg .c, decReg .d, decReg .e, decReg .h, decReg .l, decReg .a, dec_atHL, daa, cpl, scf, ccf,
    incR16 .bc, incR16 .de, incR16 .hl, incR16 .sp, decR16 .bc, decR16 .de, decR16 .hl, decR16 .sp, addHl .bc,
    addHl .de, addHl .hl, addHl .sp, add_SP_e8 _, ld_HL_SPe8 _, rlca, rrca, rla, rra, jp_a16 _, jpCond .nz _,
    jpCond .z _, jpCond .nc _, jpCond .c _, jp_HL, jr_e8 _, jrCond .nz _, jrCond .z _, jrCond .nc _, jrCond .c _,
    call_a16 _, callCond .nz _, callCond .z _, callCond .nc _, callCond .c _, ret, retCond .nz, retCond .z,
    retCond .nc, retCond .c, reti, rst .i0, rst .i1, rst .i2, rst .i3, rst .i4, rst .i5, rst .i6, rst .i7, invalid _,
    nop, halt, stop, di, ei, prefixCb, rotReg .rlc .b, rotReg .rlc .c, rotReg .rlc .d, rotReg .rlc .e, rotReg .rlc .h,
    rotReg .rlc .l, rotReg .rlc .a, rotMem .rlc, rotReg .rrc .b, rotReg .rrc .c, rotReg .rrc .d, rotReg .rrc .e,
    rotReg .rrc .h, rotReg .rrc .l, rotReg .rrc .a, rotMem .rrc, rotReg .rl .b, rotReg .rl .c, rotReg .rl .d,
    rotReg .rl .e, rotReg .rl .h, rotReg .rl .l, rotReg .rl .a, rotMem .rl, rotReg .rr .b, rotReg .rr .c,
    rotReg .rr .d, rotReg .rr .e, rotReg .rr .h, rotReg .rr .l, rotReg .rr .a, rotMem .rr, rotReg .sla .b,
    rotReg .sla .c, rotReg .sla .d, rotReg .sla .e, rotReg .sla .h, rotReg .sla .l, rotReg .sla .a, rotMem .sla,
    rotReg .sra .b, rotReg .sra .c, rotReg .sra .d, rotReg .sra .e, rotReg .sra .h, rotReg .sra .l, rotReg .sra .a,
    rotMem .sra, rotReg .swap .b, rotReg .swap .c, rotReg .swap .d, rotReg .swap .e, rotReg .swap .h, rotReg .swap .l,
    rotReg .swap .a, rotMem .swap, rotReg .srl .b, rotReg .srl .c, rotReg .srl .d, rotReg .srl .e, rotReg .srl .h,
    rotReg .srl .l, rotReg .srl .a, rotMem .srl, bitReg .i0 .b, bitReg .i0 .c, bitReg .i0 .d, bitReg .i0 .e,
    bitReg .i0 .h, bitReg .i0 .l, bitReg .i0 .a, bitReg .i1 .b, bitReg .i1 .c, bitReg .i1 .d, bitReg .i1 .e,
    bitReg .i1 .h, bitReg .i1 .l, bitReg .i1 .a, bitReg .i2 .b, bitReg .i2 .c, bitReg .i2 .d, bitReg .i2 .e,
    bitReg .i2 .h, bitReg .i2 .l, bitReg .i2 .a, bitReg .i3 .b, bitReg .i3 .c, bitReg .i3 .d, bitReg .i3 .e,
    bitReg .i3 .h, bitReg .i3 .l, bitReg .i3 .a, bitReg .i4 .b, bitReg .i4 .c, bitReg .i4 .d, bitReg .i4 .e,
    bitReg .i4 .h, bitReg .i4 .l, bitReg .i4 .a, bitReg .i5 .b, bitReg .i5 .c, bitReg .i5 .d, bitReg .i5 .e,
    bitReg .i5 .h, bitReg .i5 .l, bitReg .i5 .a, bitReg .i6 .b, bitReg .i6 .c, bitReg .i6 .d, bitReg .i6 .e,
    bitReg .i6 .h, bitReg .i6 .l, bitReg .i6 .a, bitReg .i7 .b, bitReg .i7 .c, bitReg .i7 .d, bitReg .i7 .e,
    bitReg .i7 .h, bitReg .i7 .l, bitReg .i7 .a, bitMem .i0, bitMem .i1, bitMem .i2, bitMem .i3, bitMem .i4,
    bitMem .i5, bitMem .i6, bitMem .i7, resReg .i0 .b, resReg .i0 .c, resReg .i0 .d, resReg .i0 .e, resReg .i0 .h,
    resReg .i0 .l, resReg .i0 .a, resReg .i1 .b, resReg .i1 .c, resReg .i1 .d, resReg .i1 .e, resReg .i1 .h,
    resReg .i1 .l, resReg .i1 .a, resReg .i2 .b, resReg .i2 .c, resReg .i2 .d, resReg .i2 .e, resReg .i2 .h,
    resReg .i2 .l, resReg .i2 .a, resReg .i3 .b, resReg .i3 .c, resReg .i3 .d, resReg .i3 .e, resReg .i3 .h,
    resReg .i3 .l, resReg .i3 .a, resReg .i4 .b, resReg .i4 .c, resReg .i4 .d, resReg .i4 .e, resReg .i4 .h,
    resReg .i4 .l, resReg .i4 .a, resReg .i5 .b, resReg .i5 .c, resReg .i5 .d, resReg .i5 .e, resReg .i5 .h,
    resReg .i5 .l, resReg .i5 .a, resReg .i6 .b, resReg .i6 .c, resReg .i6 .d, resReg .i6 .e, resReg .i6 .h,
    resReg .i6 .l, resReg .i6 .a, resReg .i7 .b, resReg .i7 .c, resReg .i7 .d, resReg .i7 .e, resReg .i7 .h,
    resReg .i7 .l, resReg .i7 .a, resMem .i0, resMem .i1, resMem .i2, resMem .i3, resMem .i4, resMem .i5, resMem .i6,
    resMem .i7, setReg .i0 .b, setReg .i0 .c, setReg .i0 .d, setReg .i0 .e, setReg .i0 .h, setReg .i0 .l,
    setReg .i0 .a, setReg .i1 .b, setReg .i1 .c, setReg .i1 .d, setReg .i1 .e, setReg .i1 .h, setReg .i1 .l,
    setReg .i1 .a, setReg .i2 .b, setReg .i2 .c, setReg .i2 .d, setReg .i2 .e, setReg .i2 .h, setReg .i2 .l,
    setReg .i2 .a, setReg .i3 .b, setReg .i3 .c, setReg .i3 .d, setReg .i3 .e, setReg .i3 .h, setReg .i3 .l,
    setReg .i3 .a, setReg .i4 .b, setReg .i4 .c, setReg .i4 .d, setReg .i4 .e, setReg .i4 .h, setReg .i4 .l,
    setReg .i4 .a, setReg .i5 .b, setReg .i5 .c, setReg .i5 .d, setReg .i5 .e, setReg .i5 .h, setReg .i5 .l,
    setReg .i5 .a, setReg .i6 .b, setReg .i6 .c, setReg .i6 .d, setReg .i6 .e, setReg .i6 .h, setReg .i6 .l,
    setReg .i6 .a, setReg .i7 .b, setReg .i7 .c, setReg .i7 .d, setReg .i7 .e, setReg .i7 .h, setReg .i7 .l,
    setReg .i7 .a, setMem .i0, setMem .i1, setMem .i2, setMem .i3, setMem .i4, setMem .i5, setMem .i6, setMem .i7]

/-! ### What `exec` is on each form -/

@[simp] theorem exec_ldRegReg (dst : Reg) (src : Reg) (s : State) :
    exec (Instr.ldRegReg dst src) s = Machine.ldRegReg dst src s := by
  cases dst <;> cases src <;> rfl

@[simp] theorem exec_ldRegMem (dst : Reg) (s : State) :
    exec (Instr.ldRegMem dst) s = Machine.ldRegMem dst s := by
  cases dst <;> rfl

@[simp] theorem exec_ldMemReg (r : Reg) (s : State) :
    exec (Instr.ldMemReg r) s = Machine.ldMemReg r s := by
  cases r <;> rfl

@[simp] theorem exec_ldRegImm (dst : Reg) (n : Byte) (s : State) :
    exec (Instr.ldRegImm dst n) s = Machine.ldRegImm dst n s := by
  cases dst <;> rfl

@[simp] theorem exec_ldAccMem (p : R16mem) (s : State) :
    exec (Instr.ldAccMem p) s = Machine.ldAccMem p s := by
  cases p <;> rfl

@[simp] theorem exec_ldMemAcc (p : R16mem) (s : State) :
    exec (Instr.ldMemAcc p) s = Machine.ldMemAcc p s := by
  cases p <;> rfl

@[simp] theorem exec_ldR16 (p : R16) (v : Word) (s : State) :
    exec (Instr.ldR16 p v) s = done 12 (s.setR16 p v) := by
  cases p <;> rfl

@[simp] theorem exec_push (p : R16stk) (s : State) :
    exec (Instr.push p) s = done 16 (push16 s (s.r16stk p)) := by
  cases p <;> rfl

@[simp] theorem exec_pop (p : R16stk) (s : State) :
    exec (Instr.pop p) s = done 12 ((popSp s).setR16stk p (popValue s)) := by
  cases p <;> rfl

@[simp] theorem exec_aluReg (op : AluOp) (r : Reg) (s : State) :
    exec (Instr.aluReg op r) s = Machine.aluReg op r s := by
  cases op <;> cases r <;> rfl

@[simp] theorem exec_aluMem (op : AluOp) (s : State) :
    exec (Instr.aluMem op) s = Machine.aluMem op s := by
  cases op <;> rfl

@[simp] theorem exec_aluImm (op : AluOp) (n : Byte) (s : State) :
    exec (Instr.aluImm op n) s = Machine.aluImm op n s := by
  cases op <;> rfl

@[simp] theorem exec_incReg (r : Reg) (s : State) :
    exec (Instr.incReg r) s = Machine.incReg r s := by
  cases r <;> rfl

@[simp] theorem exec_decReg (r : Reg) (s : State) :
    exec (Instr.decReg r) s = Machine.decReg r s := by
  cases r <;> rfl

@[simp] theorem exec_incR16 (p : R16) (s : State) :
    exec (Instr.incR16 p) s = done 8 (s.setR16 p (s.r16 p + 1)) := by
  cases p <;> rfl

@[simp] theorem exec_decR16 (p : R16) (s : State) :
    exec (Instr.decR16 p) s = done 8 (s.setR16 p (s.r16 p - 1)) := by
  cases p <;> rfl

@[simp] theorem exec_addHl (p : R16) (s : State) :
    exec (Instr.addHl p) s = Machine.addHl p s := by
  cases p <;> rfl

@[simp] theorem exec_rotReg (op : RotOp) (r : Reg) (s : State) :
    exec (Instr.rotReg op r) s = Machine.rotReg op r s := by
  cases op <;> cases r <;> rfl

@[simp] theorem exec_rotMem (op : RotOp) (s : State) :
    exec (Instr.rotMem op) s = Machine.rotMem op s := by
  cases op <;> rfl

@[simp] theorem exec_bitReg (y : Oct) (r : Reg) (s : State) :
    exec (Instr.bitReg y r) s = Machine.bitReg y r s := by
  cases y <;> cases r <;> rfl

@[simp] theorem exec_bitMem (y : Oct) (s : State) :
    exec (Instr.bitMem y) s = Machine.bitMem y s := by
  cases y <;> rfl

@[simp] theorem exec_resReg (y : Oct) (r : Reg) (s : State) :
    exec (Instr.resReg y r) s = Machine.resBitReg y r s := by
  cases y <;> cases r <;> rfl

@[simp] theorem exec_resMem (y : Oct) (s : State) :
    exec (Instr.resMem y) s = Machine.resBitMem y s := by
  cases y <;> rfl

@[simp] theorem exec_setReg (y : Oct) (r : Reg) (s : State) :
    exec (Instr.setReg y r) s = Machine.setBitReg y r s := by
  cases y <;> cases r <;> rfl

@[simp] theorem exec_setMem (y : Oct) (s : State) :
    exec (Instr.setMem y) s = Machine.setBitMem y s := by
  cases y <;> rfl

@[simp] theorem exec_jpCond (k : Cond) (a : Word) (s : State) :
    exec (Instr.jpCond k a) s = Machine.jpCond k a s := by
  cases k <;> rfl

@[simp] theorem exec_jrCond (k : Cond) (e : Byte) (s : State) :
    exec (Instr.jrCond k e) s = Machine.jrCond k e s := by
  cases k <;> rfl

@[simp] theorem exec_callCond (k : Cond) (a : Word) (s : State) :
    exec (Instr.callCond k a) s = Machine.callCond k a s := by
  cases k <;> rfl

@[simp] theorem exec_retCond (k : Cond) (s : State) :
    exec (Instr.retCond k) s = Machine.retCond k s := by
  cases k <;> rfl

@[simp] theorem exec_rst (y : Oct) (s : State) :
    exec (Instr.rst y) s = done 16 (callTo s (rstTarget y)) := by
  cases y <;> rfl

end Sys2Proof.Laws
end

