-- ==== Sys2Proof/Laws/Ops.lean ====
section
/-! SUPPORT. Sys2Proof/Laws/Ops.lean: one lemma for each shared operation that says all it can do: changes of the CPU alone, one
store, two stores, the push and the pop. -/

namespace Sys2Proof.Laws

open Sys2Proof.Machine

/-! ### Changes of the CPU alone -/

/-- A change of the CPU and the cycle count leaves everything else alone. -/
theorem sameOutside_cpu (s : State) (c : Cpu) (n : Nat) : SameOutside s { s with cpu := c, cycles := n } :=
  ⟨rfl, fun joy x => busRead_besides s c n joy x⟩

/-- A register write, with its cycles, as a change of the CPU alone. -/
theorem sameOutside_setReg (s : State) (r : Reg) (v : Byte) (n : Nat) : SameOutside s ((s.setReg r v).took n) := by
  cases r <;> exact sameOutside_cpu s _ n

/-- A register write and a flag write, as a change of the CPU alone. -/
theorem sameOutside_setReg_setFlags (s : State) (r : Reg) (v : Byte) (f : Flags) (n : Nat) :
    SameOutside s (((s.setReg r v).setFlags f).took n) := by
  cases r <;> exact sameOutside_cpu s _ n

/-- Writing one register. -/
theorem regWritten_setReg (s : State) (r : Reg) (v : Byte) (n : Nat) :
    RegWritten r v n s ((s.setReg r v).took n) where
  value := by simp
  flags := by simp
  regs := fun q hq => by rw [took_reg]; exact setReg_reg_other s r q v (by simpa using hq)
  pcSp := ⟨by simp, by simp⟩
  control := ⟨by simp, by simp, by simp, by simp⟩
  outside := sameOutside_setReg s r v n
  cycles := rfl

theorem setFlags_reg (s : State) (f : Flags) (q : Reg) : (s.setFlags f).reg q = s.reg q := by
  cases q <;> rfl

/-- Writing one register and the flags. -/
theorem regFlagsWritten_set (s : State) (r : Reg) (v : Byte) (f : Flags) (n : Nat) :
    RegFlagsWritten r v f n s (((s.setReg r v).setFlags f).took n) where
  value := by rw [took_reg, setFlags_reg]; simp
  flags := rfl
  regs := fun q hq => by rw [took_reg, setFlags_reg]; exact setReg_reg_other s r q v (by simpa using hq)
  pcSp := ⟨by simp, by simp⟩
  control := ⟨by simp, by simp, by simp, by simp⟩
  outside := sameOutside_setReg_setFlags s r v f n
  cycles := rfl

/-- Writing the flags. -/
theorem flagsWritten_set (s : State) (f : Flags) (n : Nat) : FlagsWritten f n s ((s.setFlags f).took n) where
  flags := rfl
  regs := fun q _ => by rw [took_reg, setFlags_reg]
  pcSp := ⟨rfl, rfl⟩
  control := ⟨rfl, rfl, rfl, rfl⟩
  outside := sameOutside_cpu s _ n
  cycles := rfl

/-- Writing PC. -/
theorem pcWritten_set (s : State) (v : Word) (n : Nat) : PcWritten v n s ((s.setPc v).took n) where
  pc := rfl
  cpu := rfl
  outside := sameOutside_cpu s _ n
  cycles := rfl

/-! ### Stores -/

/-- One store, whatever the instruction does to the CPU beside it. -/
theorem byteStored_busWrite (s : State) (a : Word) (v : Byte) (c : Cpu) (n : Nat) :
    ByteStored a v s { busWrite s a v with cpu := c, cycles := n } where
  exact := by
    have h1 := busWrite_cpu s a v
    have h2 := busWrite_cycles s a v
    rw [← h1, ← h2]
  reads := fun h joy => by rw [busRead_besides]; exact busRead_busWrite_same joy s a v h
  frame := fun joy x hx hw => by
    rw [busRead_besides]
    exact busRead_busWrite_other joy s a x v (hx a (List.mem_singleton.mpr rfl))
      (hw.imp_left fun h => h a (List.mem_singleton.mpr rfl))

/-- One store beside which the CPU becomes `c`. -/
theorem storeDone_busWrite (s : State) (a : Word) (v : Byte) (c : Cpu) (n : Nat) :
    StoreDone a v c n s { busWrite s a v with cpu := c, cycles := n } :=
  ⟨rfl, byteStored_busWrite s a v c n, rfl⟩

/-- One store and nothing else. -/
theorem storeDone_took (s : State) (a : Word) (v : Byte) (n : Nat) :
    StoreDone a v s.cpu n s ((busWrite s a v).took n) := by
  simp only [State.took, busWrite_cpu]
  exact storeDone_busWrite s a v s.cpu n

/-- One store and the flags. -/
theorem storeDone_setFlags (s : State) (a : Word) (v : Byte) (f : Flags) (n : Nat) :
    StoreDone a v { s.cpu with flags := f } n s (((busWrite s a v).setFlags f).took n) := by
  simp only [State.took, State.setFlags, busWrite_cpu]
  exact storeDone_busWrite s a v _ n

/-- The cells of two consecutive addresses differ. -/
theorem mirrored_succ (a : Word) : mirrored (a + 1) ≠ mirrored a := by
  intro h
  have h := congrArg BitVec.toNat h
  rw [mirrored_toNat, mirrored_toNat, BitVec.toNat_add] at h
  have h1 : (1 : Word).toNat = 1 := rfl
  have hlt := a.isLt
  have hc := region_cases a
  have hd := region_cases (a + 1)
  rw [BitVec.toNat_add] at hd
  by_cases he : region a = .echo <;> by_cases hf : region (a + 1) = .echo <;>
    simp only [he, hf, if_true, if_false, reduceCtorEq, false_and, false_or, or_false, true_and] at h hc hd <;> omega

/-- Two stores at addresses of different cells. -/
theorem twoBytesStored_busWrite (s : State) (a1 a2 : Word) (v1 v2 : Byte) (c : Cpu) (n : Nat)
    (h12 : mirrored a1 ≠ mirrored a2) :
    TwoBytesStored a1 v1 a2 v2 s { busWrite (busWrite s a1 v1) a2 v2 with cpu := c, cycles := n } where
  exact := by
    have h1 : (busWrite (busWrite s a1 v1) a2 v2).cpu = s.cpu := by simp
    have h2 : (busWrite (busWrite s a1 v1) a2 v2).cycles = s.cycles := by simp
    rw [← h1, ← h2]
  reads1 := fun h joy => by
    rw [busRead_besides, busRead_busWrite_other joy _ a2 a1 v2 h12]
    · exact busRead_busWrite_same joy s a1 v1 h
    · right
      unfold plainStorage at h
      constructor <;> intro hr <;> rw [hr] at h <;> exact absurd h (by decide)
  reads2 := fun h joy => by rw [busRead_besides]; exact busRead_busWrite_same joy _ a2 v2 h
  frame := fun joy x hx hw => by
    have m1 : a1 ∈ [a1, a2] := by simp
    have m2 : a2 ∈ [a1, a2] := by simp
    rw [busRead_besides, busRead_busWrite_other joy _ a2 x v2 (hx a2 m2) (hw.imp_left fun h => h a2 m2)]
    exact busRead_busWrite_other joy s a1 x v1 (hx a1 m1) (hw.imp_left fun h => h a1 m1)

/-! ### The stack -/

/-- All that a push does: two stores, and SP falls by 2. -/
theorem push16_eq (s : State) (v : Word) :
    push16 s v = { busWrite (busWrite s (s.cpu.sp - 1) (hi8 v)) (s.cpu.sp - 2) (lo8 v) with
      cpu := { s.cpu with sp := s.cpu.sp - 2 } } := by
  have h2 : s.cpu.sp - 1 - 1 = s.cpu.sp - 2 := by
    rw [BitVec.sub_sub]; rfl
  unfold push16
  simp only [busWrite_setSp, setSp_sp, h2]
  unfold State.setSp
  simp only [busWrite_cpu]

/-- The two cells of a push differ. -/
theorem mirrored_push (sp : Word) : mirrored (sp - 1) ≠ mirrored (sp - 2) := by
  have h : sp - 2 + 1 = sp - 1 := by bv_omega
  rw [← h]
  exact mirrored_succ (sp - 2)

/-- A push, whatever the instruction then does to PC and the interrupt latch. -/
theorem wordPushed_push16 (s : State) (v pc : Word) (i e : Bool) (n : Nat) :
    WordPushed v s ((((push16 s v).setPc pc).setIme i e).took n) := by
  rw [push16_eq]
  refine ⟨rfl, fun q _ => by cases q <;> rfl, rfl, ?_⟩
  exact twoBytesStored_busWrite s _ _ _ _ _ n (mirrored_push s.cpu.sp)

@[simp] theorem push16_cpu (s : State) (v : Word) : (push16 s v).cpu = { s.cpu with sp := s.cpu.sp - 2 } := by
  rw [push16_eq]

/-- What a push stored is what a later pop takes, when the stack lies in plain storage, whatever became of the CPU but SP. -/
theorem popValue_push16 (s t : State) (v : Word) (c : Cpu) (n : Nat) (ht : t = { push16 s v with cpu := c, cycles := n })
    (hc : c.sp = s.cpu.sp - 2) (h1 : plainStorage (s.cpu.sp - 1) = true) (h2 : plainStorage (s.cpu.sp - 2) = true) :
    popValue t = v := by
  subst ht
  have e : c.sp + 1 = s.cpu.sp - 1 := by rw [hc]; bv_omega
  have hs := twoBytesStored_busWrite s _ _ (hi8 v) (lo8 v) c n (mirrored_push s.cpu.sp)
  unfold popValue State.read16 State.readByte
  simp only
  rw [e, hc, push16_eq, hs.reads1 h1, hs.reads2 h2, cat_hi8_lo8]

/-- The pair written to the CPU alone. -/
theorem setR16stk_eq (s : State) (p : R16stk) (v : Word) : ∃ c, s.setR16stk p v = { s with cpu := c } := by
  cases p <;> exact ⟨_, rfl⟩

/-- The pair written to the CPU alone. -/
theorem setR16_eq (s : State) (p : R16) (v : Word) : ∃ c, s.setR16 p v = { s with cpu := c } := by
  cases p <;> exact ⟨_, rfl⟩

/-- Writing a pair. -/
theorem pairFlagsWritten_setR16 (s : State) (p : R16) (v : Word) (n : Nat) :
    PairFlagsWritten p v s.cpu.flags n s ((s.setR16 p v).took n) where
  value := by have := setR16_r16 s p v; cases p <;> exact this
  flags := by cases p <;> rfl
  regs := fun q hq => by cases p <;> cases q <;> simp [halves] at hq <;> rfl
  sp := fun h => by cases p <;> first | rfl | exact absurd rfl h
  pc := by cases p <;> rfl
  control := by cases p <;> exact ⟨rfl, rfl, rfl, rfl⟩
  outside := by obtain ⟨c, h⟩ := setR16_eq s p v; rw [h]; exact sameOutside_cpu s c n
  cycles := rfl

/-- Writing a pair and the flags. -/
theorem pairFlagsWritten_setFlags (s : State) (p : R16) (v : Word) (f : Flags) (n : Nat) :
    PairFlagsWritten p v f n s (((s.setR16 p v).setFlags f).took n) where
  value := by have := setR16_r16 s p v; cases p <;> exact this
  flags := by cases p <;> rfl
  regs := fun q hq => by cases p <;> cases q <;> simp [halves] at hq <;> rfl
  sp := fun h => by cases p <;> first | rfl | exact absurd rfl h
  pc := by cases p <;> rfl
  control := by cases p <;> exact ⟨rfl, rfl, rfl, rfl⟩
  outside := by obtain ⟨c, h⟩ := setR16_eq s p v; rw [h]; exact sameOutside_cpu s _ n
  cycles := rfl

end Sys2Proof.Laws
end

