-- ==== Sys2Proof/Laws/Exec.lean ====
section
/-! SUPPORT. Sys2Proof/Laws/Exec.lean: everything an instruction can do that completes, said once (`exec_completes`), and
which instructions complete (`exec_next_or_invalid`). A proof about every instruction cites these instead of unfolding
`exec`. -/

namespace Sys2Proof.Laws

open Sys2Proof.Machine

/-- The state after the stores `ws`, in order. -/
def stored (s : State) : List (Word × Byte) → State
  | [] => s
  | (a, v) :: ws => stored (busWrite s a v) ws

/-- A property that every bus write keeps holds after any stores. -/
theorem stored_induction {P : State → Prop} (hw : ∀ s a v, P s → P (busWrite s a v)) (ws : List (Word × Byte)) (s : State)
    (h : P s) : P (stored s ws) := by
  induction ws generalizing s with
  | nil => exact h
  | cons w ws ih => exact ih _ (hw s w.1 w.2 h)

/-- What the control state of the CPU may become: no fault is recorded; `ei_pending` stays, falls, or is set by EI, which
leaves `run`. -/
structure ControlStep (s : State) (c : Cpu) : Prop where
  fault : c.fault = s.cpu.fault
  ei : c.eiPending = false ∨ (c.eiPending = s.cpu.eiPending) ∨ (s.config.eiDelay = .one ∧ c.run = s.cpu.run)

/-- An instruction's completion: at most two stores, then a new CPU and a cycle count; nothing else. -/
def Completes (s t : State) : Prop :=
  ∃ (ws : List (Word × Byte)) (c : Cpu) (n : Nat), ws.length ≤ 2 ∧ n ∈ [4, 8, 12, 16, 20, 24] ∧ ControlStep s c
    ∧ t = { stored s ws with cpu := c, cycles := n }

/-- A change of the CPU alone that keeps the control state. -/
theorem completes_cpu (s : State) (c : Cpu) (n : Nat) (hn : n ∈ [4, 8, 12, 16, 20, 24]) (hc : ControlStep s c) :
    Completes s { s with cpu := c, cycles := n } :=
  ⟨[], c, n, by simp, hn, hc, rfl⟩

/-- One store and a change of the CPU. -/
theorem completes_write (s : State) (a : Word) (v : Byte) (c : Cpu) (n : Nat) (hn : n ∈ [4, 8, 12, 16, 20, 24])
    (hc : ControlStep s c) : Completes s { busWrite s a v with cpu := c, cycles := n } :=
  ⟨[(a, v)], c, n, by simp, hn, hc, rfl⟩

/-- Two stores and a change of the CPU. -/
theorem completes_write2 (s : State) (a1 a2 : Word) (v1 v2 : Byte) (c : Cpu) (n : Nat) (hn : n ∈ [4, 8, 12, 16, 20, 24])
    (hc : ControlStep s c) : Completes s { busWrite (busWrite s a1 v1) a2 v2 with cpu := c, cycles := n } :=
  ⟨[(a1, v1), (a2, v2)], c, n, by simp, hn, hc, rfl⟩

/-- The control state is kept. -/
theorem controlStep_same (s : State) (c : Cpu) (hf : c.fault = s.cpu.fault) (he : c.eiPending = s.cpu.eiPending) :
    ControlStep s c :=
  ⟨hf, .inr (.inl he)⟩

/-- A register write and a flag write. -/
theorem completes_setReg_setFlags (s : State) (r : Reg) (v : Byte) (f : Flags) (n : Nat)
    (hn : n ∈ [4, 8, 12, 16, 20, 24]) : Completes s (((s.setReg r v).setFlags f).took n) := by
  cases r <;> exact completes_cpu s _ n hn ⟨rfl, .inr (.inl rfl)⟩

/-- A register write. -/
theorem completes_setReg (s : State) (r : Reg) (v : Byte) (n : Nat) (hn : n ∈ [4, 8, 12, 16, 20, 24]) :
    Completes s ((s.setReg r v).took n) := by
  cases r <;> exact completes_cpu s _ n hn ⟨rfl, .inr (.inl rfl)⟩

/-- A flag write. -/
theorem completes_setFlags (s : State) (f : Flags) (n : Nat) (hn : n ∈ [4, 8, 12, 16, 20, 24]) :
    Completes s ((s.setFlags f).took n) :=
  completes_cpu s _ n hn ⟨rfl, .inr (.inl rfl)⟩

/-- A pair write. -/
theorem completes_setR16 (s : State) (p : R16) (v : Word) (n : Nat) (hn : n ∈ [4, 8, 12, 16, 20, 24]) :
    Completes s ((s.setR16 p v).took n) := by
  cases p <;> exact completes_cpu s _ n hn ⟨rfl, .inr (.inl rfl)⟩

/-- One store. -/
theorem completes_busWrite (s : State) (a : Word) (v : Byte) (n : Nat) (hn : n ∈ [4, 8, 12, 16, 20, 24]) :
    Completes s ((busWrite s a v).took n) := by
  simp only [State.took]
  exact completes_write s a v _ n hn ⟨by simp, .inr (.inl (by simp))⟩

/-- One store and a flag write. -/
theorem completes_busWrite_setFlags (s : State) (a : Word) (v : Byte) (f : Flags) (n : Nat)
    (hn : n ∈ [4, 8, 12, 16, 20, 24]) : Completes s (((busWrite s a v).setFlags f).took n) := by
  simp only [State.took, State.setFlags]
  exact completes_write s a v _ n hn ⟨by simp, .inr (.inl (by simp))⟩

/-- A push, with a new PC. -/
theorem completes_push16_setPc (s : State) (v pc : Word) (n : Nat) (hn : n ∈ [4, 8, 12, 16, 20, 24]) :
    Completes s (((push16 s v).setPc pc).took n) := by
  rw [push16_eq]
  exact completes_write2 s _ _ _ _ _ n hn ⟨rfl, .inr (.inl rfl)⟩

/-- A push. -/
theorem completes_push16 (s : State) (v : Word) (n : Nat) (hn : n ∈ [4, 8, 12, 16, 20, 24]) :
    Completes s ((push16 s v).took n) := by
  rw [push16_eq]
  exact completes_write2 s _ _ _ _ _ n hn ⟨rfl, .inr (.inl rfl)⟩

/-- A CB-table instruction, by its second byte. -/
theorem cbByte_completes (b : Byte) (s : State) : ∃ t, cbByte b s = .next t ∧ Completes s t := by
  unfold cbByte
  split
  · cases r8Of (fieldZ b) with
    | reg r => exact ⟨_, rfl, completes_setReg_setFlags s _ _ _ _ (by simp)⟩
    | atHL => exact ⟨_, rfl, completes_busWrite_setFlags s _ _ _ _ (by simp)⟩
  · cases r8Of (fieldZ b) with
    | reg r => exact ⟨_, rfl, completes_setFlags s _ _ (by simp)⟩
    | atHL => exact ⟨_, rfl, completes_setFlags s _ _ (by simp)⟩
  · cases r8Of (fieldZ b) with
    | reg r => exact ⟨_, rfl, completes_setReg s _ _ _ (by simp)⟩
    | atHL => exact ⟨_, rfl, completes_busWrite s _ _ _ (by simp)⟩
  · cases r8Of (fieldZ b) with
    | reg r => exact ⟨_, rfl, completes_setReg s _ _ _ (by simp)⟩
    | atHL => exact ⟨_, rfl, completes_busWrite s _ _ _ (by simp)⟩

/-- A CB-table instruction that starts with PC one further on. -/
theorem completes_of_setPc (s t : State) (pc : Word) (h : Completes (s.setPc pc) t) : Completes s t := by
  obtain ⟨ws, c, n, hl, hn, hc, rfl⟩ := h
  refine ⟨ws, c, n, hl, hn, ⟨hc.1, hc.2⟩, ?_⟩
  have key : ∀ (ws : List (Word × Byte)) (s : State),
      stored (s.setPc pc) ws = { stored s ws with cpu := (stored (s.setPc pc) ws).cpu } := by
    intro ws
    induction ws with
    | nil => intro s; rfl
    | cons w ws ih =>
      intro s
      have h : busWrite (s.setPc pc) w.1 w.2 = (busWrite s w.1 w.2).setPc pc :=
        (busWrite_withCpu s { s.cpu with pc := pc } w.1 w.2).trans (by unfold State.setPc; rw [busWrite_cpu])
      show stored (busWrite (s.setPc pc) w.1 w.2) ws = _
      simp only [stored, h]
      exact ih _
  rw [key]

/-- Every instruction but an invalid byte completes, and does no more than `Completes` says. -/
theorem exec_completes_or_invalid (i : Instr) (s : State) :
    (∃ op, i = .invalid op) ∨ ∃ t, exec i s = .next t ∧ Completes s t := by
  induction i using casesByForm with
  | invalid op => exact .inl ⟨op, rfl⟩
  | ldRegReg dst r => exact .inr ⟨_, exec_ldRegReg dst r s, completes_setReg s _ _ _ (by simp)⟩
  | ldRegMem dst => exact .inr ⟨_, exec_ldRegMem dst s, completes_setReg s _ _ _ (by simp)⟩
  | ldMemReg r => exact .inr ⟨_, exec_ldMemReg r s, completes_busWrite s _ _ _ (by simp)⟩
  | ldRegImm dst n => exact .inr ⟨_, exec_ldRegImm dst n s, completes_setReg s _ _ _ (by simp)⟩
  | ldAccMem p =>
    exact .inr ⟨_, exec_ldAccMem p s, by cases p <;> exact completes_cpu s _ _ (by simp) ⟨rfl, .inr (.inl rfl)⟩⟩
  | ldMemAcc p =>
    refine .inr ⟨_, exec_ldMemAcc p s, ?_⟩
    cases p <;> simp only [State.took, State.stepR16mem, State.setHl] <;>
      exact completes_write s _ _ _ _ (by simp) ⟨by simp, .inr (.inl (by simp))⟩
  | ldR16 p v => exact .inr ⟨_, exec_ldR16 p v s, completes_setR16 s _ _ _ (by simp)⟩
  | push p => exact .inr ⟨_, exec_push p s, completes_push16 s _ _ (by simp)⟩
  | pop p =>
    exact .inr ⟨_, exec_pop p s, by cases p <;> exact completes_cpu s _ _ (by simp) ⟨rfl, .inr (.inl rfl)⟩⟩
  | aluReg op r =>
    refine .inr ⟨_, exec_aluReg op r s, ?_⟩
    exact completes_setReg_setFlags s _ _ _ _ (by simp)
  | aluMem op => exact .inr ⟨_, exec_aluMem op s, completes_setReg_setFlags s _ _ _ _ (by simp)⟩
  | aluImm op n => exact .inr ⟨_, exec_aluImm op n s, completes_setReg_setFlags s _ _ _ _ (by simp)⟩
  | incReg r => exact .inr ⟨_, exec_incReg r s, completes_setReg_setFlags s _ _ _ _ (by simp)⟩
  | decReg r => exact .inr ⟨_, exec_decReg r s, completes_setReg_setFlags s _ _ _ _ (by simp)⟩
  | incR16 p => exact .inr ⟨_, exec_incR16 p s, completes_setR16 s _ _ _ (by simp)⟩
  | decR16 p => exact .inr ⟨_, exec_decR16 p s, completes_setR16 s _ _ _ (by simp)⟩
  | addHl p => exact .inr ⟨_, exec_addHl p s, completes_cpu s _ _ (by simp) ⟨rfl, .inr (.inl rfl)⟩⟩
  | rotReg op r => exact .inr ⟨_, exec_rotReg op r s, completes_setReg_setFlags s _ _ _ _ (by simp)⟩
  | rotMem op => exact .inr ⟨_, exec_rotMem op s, completes_busWrite_setFlags s _ _ _ _ (by simp)⟩
  | bitReg y r => exact .inr ⟨_, exec_bitReg y r s, completes_setFlags s _ _ (by simp)⟩
  | bitMem y => exact .inr ⟨_, exec_bitMem y s, completes_setFlags s _ _ (by simp)⟩
  | resReg y r => exact .inr ⟨_, exec_resReg y r s, completes_setReg s _ _ _ (by simp)⟩
  | resMem y => exact .inr ⟨_, exec_resMem y s, completes_busWrite s _ _ _ (by simp)⟩
  | setReg y r => exact .inr ⟨_, exec_setReg y r s, completes_setReg s _ _ _ (by simp)⟩
  | setMem y => exact .inr ⟨_, exec_setMem y s, completes_busWrite s _ _ _ (by simp)⟩
  | jpCond k a =>
    refine .inr ?_
    rw [exec_jpCond]; unfold jpCond
    split <;> exact ⟨_, rfl, completes_cpu s _ _ (by simp) ⟨rfl, .inr (.inl rfl)⟩⟩
  | jrCond k e =>
    refine .inr ?_
    rw [exec_jrCond]; unfold jrCond
    split <;> exact ⟨_, rfl, completes_cpu s _ _ (by simp) ⟨rfl, .inr (.inl rfl)⟩⟩
  | callCond k a =>
    refine .inr ?_
    rw [exec_callCond]; unfold callCond
    split
    · exact ⟨_, rfl, completes_push16_setPc s _ _ _ (by simp)⟩
    · exact ⟨_, rfl, completes_cpu s _ _ (by simp) ⟨rfl, .inr (.inl rfl)⟩⟩
  | retCond k =>
    refine .inr ?_
    rw [exec_retCond]; unfold retCond
    split <;> exact ⟨_, rfl, completes_cpu s _ _ (by simp) ⟨rfl, .inr (.inl rfl)⟩⟩
  | rst y => exact .inr ⟨_, exec_rst y s, completes_push16_setPc s _ _ _ (by simp)⟩
  | ld_atHL_d8 n => exact .inr ⟨_, rfl, completes_busWrite s _ _ _ (by simp)⟩
  | ld_ata16_A a => exact .inr ⟨_, rfl, completes_busWrite s _ _ _ (by simp)⟩
  | ldh_ata8_A n => exact .inr ⟨_, rfl, completes_busWrite s _ _ _ (by simp)⟩
  | ld_atC_A => exact .inr ⟨_, rfl, completes_busWrite s _ _ _ (by simp)⟩
  | ld_ata16_SP a =>
    refine .inr ⟨_, rfl, ?_⟩
    simp only [State.took, write16]
    exact completes_write2 s _ _ _ _ _ _ (by simp) ⟨by simp, .inr (.inl (by simp))⟩
  | inc_atHL => exact .inr ⟨_, rfl, completes_busWrite_setFlags s _ _ _ _ (by simp)⟩
  | dec_atHL => exact .inr ⟨_, rfl, completes_busWrite_setFlags s _ _ _ _ (by simp)⟩
  | call_a16 a => exact .inr ⟨_, rfl, completes_push16_setPc s _ _ _ (by simp)⟩
  | prefixCb =>
    obtain ⟨t, ht, hc⟩ := cbByte_completes (s.readByte 1 s.cpu.pc) (s.setPc (s.cpu.pc + 1))
    exact .inr ⟨t, ht, completes_of_setPc s t _ hc⟩
  | ei =>
    refine .inr ⟨_, rfl, ?_⟩
    unfold enableIrq
    split
    · exact completes_cpu s _ _ (by simp) ⟨rfl, .inr (.inr ⟨‹_›, rfl⟩)⟩
    · exact completes_cpu s _ _ (by simp) ⟨rfl, .inr (.inl rfl)⟩
  | reti =>
    exact .inr ⟨_, rfl, completes_cpu s
      { s.cpu with pc := popValue s, sp := s.cpu.sp + 2, ime := true, eiPending := false } 16 (by simp) ⟨rfl, .inl rfl⟩⟩
  | di => exact .inr ⟨_, rfl, completes_cpu s _ _ (by simp) ⟨rfl, .inl rfl⟩⟩
  | _ => exact .inr ⟨_, rfl, completes_cpu s _ _ (by simp) ⟨rfl, .inr (.inl rfl)⟩⟩

/-- Everything an instruction does that completes. -/
theorem exec_completes (i : Instr) (s t : State) (h : exec i s = .next t) : Completes s t := by
  obtain ⟨op, rfl⟩ | ⟨u, hu, hc⟩ := exec_completes_or_invalid i s
  · cases (show (Host.Outcome.fault (.invalidOpcode op (s.cpu.pc - 1)) : Result) = .next t from h)
  · rw [hu] at h
    cases h
    exact hc

/-- Only an invalid byte does not complete, and it faults. -/
theorem exec_next_or_invalid (i : Instr) (s : State) :
    (∃ op, i = .invalid op ∧ exec i s = .fault (.invalidOpcode op (s.cpu.pc - 1))) ∨ ∃ t, exec i s = .next t := by
  obtain ⟨op, rfl⟩ | ⟨u, hu, _⟩ := exec_completes_or_invalid i s
  · exact .inl ⟨op, rfl, rfl⟩
  · exact .inr ⟨u, hu⟩

end Sys2Proof.Laws
end

