-- ==== Sys2Proof/Laws/Flags.lean ====
section
/-! SUPPORT. Sys2Proof/Laws/Flags.lean: one lemma for each result and flag computation, in plain numbers and bit fields. -/

namespace Sys2Proof.Laws

open Sys2Proof.Machine

/-! ### Zero tests -/

theorem bitByte_toNat (c : Bool) : (bitByte c).toNat = c.toNat := by
  cases c <;> rfl

theorem ofNat_beq_zero (k : Nat) : (BitVec.ofNat 8 k == 0) = decide (k % 256 = 0) := by
  by_cases hk : k % 256 = 0
  · have : BitVec.ofNat 8 k = 0 := by apply BitVec.eq_of_toNat_eq; simpa using hk
    simp [this, hk]
  · have : BitVec.ofNat 8 k ≠ 0 := fun h => hk (by simpa using congrArg BitVec.toNat h)
    rw [decide_eq_false hk]
    simpa using this

theorem ofInt_beq_zero (k : Int) : (BitVec.ofInt 8 k == 0) = decide (k % 256 = 0) := by
  by_cases hk : k % 256 = 0
  · have : BitVec.ofInt 8 k = 0 := by
      apply BitVec.eq_of_toNat_eq
      rw [BitVec.toNat_ofInt]
      simp
      omega
    simp [this, hk]
  · have : BitVec.ofInt 8 k ≠ 0 := fun h => hk (by
      have h := congrArg BitVec.toNat h
      rw [BitVec.toNat_ofInt] at h
      simp at h
      omega)
    rw [decide_eq_false hk]
    simpa using this

/-! ### 8-bit additions and subtractions -/

theorem addBytes_eq (a b : Byte) (c : Bool) : addBytes a b c =
    { value := BitVec.ofNat 8 (a.toNat + b.toNat + c.toNat)
      flags := { z := decide ((a.toNat + b.toNat + c.toNat) % 256 = 0), n := false
                 h := decide (a.toNat % 16 + b.toNat % 16 + c.toNat > 15)
                 c := decide (a.toNat + b.toNat + c.toNat > 255) } } := by
  have h : a + b + bitByte c = BitVec.ofNat 8 (a.toNat + b.toNat + c.toNat) := by
    apply BitVec.eq_of_toNat_eq
    simp [BitVec.toNat_add, bitByte_toNat]
  unfold addBytes
  rw [h, ofNat_beq_zero]
  rfl

theorem subBytes_eq (a b : Byte) (c : Bool) : subBytes a b c =
    { value := BitVec.ofInt 8 (a.toNat - b.toNat - c.toNat)
      flags := { z := decide (((a.toNat : Int) - b.toNat - c.toNat) % 256 = 0), n := true
                 h := decide (a.toNat % 16 < b.toNat % 16 + c.toNat)
                 c := decide (a.toNat < b.toNat + c.toNat) } } := by
  have h : a - b - bitByte c = BitVec.ofInt 8 (a.toNat - b.toNat - c.toNat) := by
    apply BitVec.eq_of_toNat_eq
    have := a.isLt
    have := b.isLt
    rw [BitVec.toNat_sub, BitVec.toNat_sub, BitVec.toNat_ofInt, bitByte_toNat]
    cases c <;> simp <;> omega
  unfold subBytes
  rw [h, ofInt_beq_zero]
  rfl

theorem incByte_eq (f : Flags) (v : Byte) : incByte f v =
    { value := BitVec.ofNat 8 (v.toNat + 1)
      flags := { z := decide ((v.toNat + 1) % 256 = 0), n := false, h := decide (v.toNat % 16 = 15), c := f.c } } := by
  have h : v + 1 = BitVec.ofNat 8 (v.toNat + 1) := by apply BitVec.eq_of_toNat_eq; simp [BitVec.toNat_add]
  unfold incByte lowNibble
  rw [h, ofNat_beq_zero]
  rfl

theorem decByte_eq (f : Flags) (v : Byte) : decByte f v =
    { value := BitVec.ofInt 8 (v.toNat - 1)
      flags := { z := decide (v.toNat = 1), n := true, h := decide (v.toNat % 16 = 0), c := f.c } } := by
  have hv := v.isLt
  have h : v - 1 = BitVec.ofInt 8 (v.toNat - 1) := by
    apply BitVec.eq_of_toNat_eq
    rw [BitVec.toNat_sub, BitVec.toNat_ofInt]
    simp
    omega
  have hz : ((v.toNat : Int) - 1) % 256 = 0 ↔ v.toNat = 1 := by omega
  unfold decByte lowNibble
  rw [h, ofInt_beq_zero]
  simp only [hz]
  rfl

/-- DAA as a table: after an addition and after a subtraction (R150). -/
theorem daa_eq (f : Flags) (v : Byte) : daa f v =
    let a := v.toNat
    let high := f.c || (!f.n && decide (a > 0x99))
    let low := f.h || (!f.n && decide (a % 16 > 9))
    let r := if f.n then (a + 512 - (if high then 0x60 else 0) - (if low then 0x06 else 0)) % 256
             else (a + (if high then 0x60 else 0) + (if low then 0x06 else 0)) % 256
    { value := BitVec.ofNat 8 r, flags := { z := decide (r = 0), n := f.n, h := false, c := high } } := by
  obtain ⟨z, n, h, c⟩ := f
  revert v
  cases n <;> cases h <;> cases c <;> cases z <;> decide

/-! ### 16-bit additions -/

theorem addWords_eq (f : Flags) (a b : Word) : addWords f a b =
    { value := BitVec.ofNat 16 (a.toNat + b.toNat)
      flags := { z := f.z, n := false, h := decide (a.toNat % 4096 + b.toNat % 4096 > 4095)
                 c := decide (a.toNat + b.toNat > 65535) } } := by
  have h : a + b = BitVec.ofNat 16 (a.toNat + b.toNat) := by apply BitVec.eq_of_toNat_eq; simp [BitVec.toNat_add]
  unfold addWords
  rw [h]
  rfl

/-- A signed byte added to a 16-bit value, modulo 2^16 (R7). -/
theorem add_sext16 (v : Word) (e : Byte) : v + sext16 e = BitVec.ofInt 16 (v.toNat + e.toInt) := by
  apply BitVec.eq_of_toInt_eq
  have h : (sext16 e).toInt = e.toInt := BitVec.toInt_signExtend_of_le (by decide)
  rw [BitVec.toInt_add, h, BitVec.toInt_ofInt, BitVec.toInt_eq_toNat_bmod]
  simp

theorem addSigned_eq (s : Word) (e : Byte) : addSigned s e =
    { value := BitVec.ofInt 16 (s.toNat + e.toInt)
      flags := { z := false, n := false, h := decide (s.toNat % 16 + e.toNat % 16 > 15)
                 c := decide (s.toNat % 256 + e.toNat > 255) } } := by
  have hl : (lo8 s).toNat = s.toNat % 256 := lo8_toNat s
  have h16 : (s.toNat % 256) % 16 = s.toNat % 16 := by omega
  unfold addSigned half8 carry8 lowNibble
  rw [add_sext16, hl, h16]
  rfl

/-! ### Rotates and shifts, as bit fields -/

theorem rotated_rlc (c : Bool) (v : Byte) : rotated .rlc c v = v.rotateLeft 1 :=
  (by decide : ∀ v : Byte, rotated .rlc false v = v.rotateLeft 1) v

theorem rotated_rrc (c : Bool) (v : Byte) : rotated .rrc c v = v.rotateRight 1 :=
  (by decide : ∀ v : Byte, rotated .rrc false v = v.rotateRight 1) v

theorem rotated_rl (c : Bool) (v : Byte) : rotated .rl c v = v.extractLsb' 0 7 ++ BitVec.ofBool c := by
  revert v; cases c <;> decide

theorem rotated_rr (c : Bool) (v : Byte) : rotated .rr c v = BitVec.ofBool c ++ v.extractLsb' 1 7 := by
  revert v; cases c <;> decide

theorem rotated_sla (c : Bool) (v : Byte) : rotated .sla c v = v.extractLsb' 0 7 ++ 0#1 :=
  (by decide : ∀ v : Byte, rotated .sla false v = v.extractLsb' 0 7 ++ 0#1) v

theorem rotated_sra (c : Bool) (v : Byte) : rotated .sra c v = v.sshiftRight 1 :=
  (by decide : ∀ v : Byte, rotated .sra false v = v.sshiftRight 1) v

theorem rotated_swap (c : Bool) (v : Byte) : rotated .swap c v = v.extractLsb' 0 4 ++ v.extractLsb' 4 4 :=
  (by decide : ∀ v : Byte, rotated .swap false v = v.extractLsb' 0 4 ++ v.extractLsb' 4 4) v

theorem rotated_srl (c : Bool) (v : Byte) : rotated .srl c v = 0#1 ++ v.extractLsb' 1 7 :=
  (by decide : ∀ v : Byte, rotated .srl false v = 0#1 ++ v.extractLsb' 1 7) v

/-! ### Single bits -/

/-- Only bit y of `1 << y` is set. -/
theorem oneBit_getLsbD (y : Oct) (j : Nat) : (oneBit y).getLsbD j = decide (j = y.toNat) := by
  unfold oneBit
  have hy := oct_toNat_lt y
  rw [BitVec.getLsbD_shiftLeft, BitVec.getLsbD_one]
  by_cases hj : j = y.toNat
  · simp [hj, hy]
  · by_cases hl : j < y.toNat
    · simp [hl, hj]
    · have : j - y.toNat ≠ 0 := by omega
      simp [this, hj]

/-- RES clears its one bit. -/
theorem resetBit_getLsbD (y : Oct) (v : Byte) (j : Nat) (h : j < 8) :
    (resetBit y v).getLsbD j = if j = y.toNat then false else v.getLsbD j := by
  have hf : (0xFF : Byte).getLsbD j = true := by interval_cases j <;> rfl
  unfold resetBit
  rw [BitVec.getLsbD_and, BitVec.getLsbD_xor, hf, oneBit_getLsbD y j]
  by_cases hj : j = y.toNat <;> simp [hj]

/-- SET sets its one bit. -/
theorem setBit_getLsbD (y : Oct) (v : Byte) (j : Nat) :
    (setBit y v).getLsbD j = if j = y.toNat then true else v.getLsbD j := by
  unfold setBit
  rw [BitVec.getLsbD_or, oneBit_getLsbD y j]
  by_cases hj : j = y.toNat <;> simp [hj]

end Sys2Proof.Laws
end

