-- ==== Sys2Proof/Laws/Step.lean ====
section
/-! SUPPORT. Sys2Proof/Laws/Step.lean: the parts of a step, said once: what the host's turn, the overlay check and the wake
can change (`atFetch_shape`), what a step that goes on went through (`step_next`), and everything that a dispatch, a wait
or an instruction can do in it (`dispatchOrRun_next`). -/

namespace Sys2Proof.Laws

open Sys2Proof.Machine

/-- The host's turn changes its schedule and the request register alone. -/
theorem hostTurn_shape (s : State) : ∃ j r, hostTurn s = { s with joypadEvents := j, irq := { s.irq with request := r } } := by
  unfold hostTurn
  split
  · exact ⟨_, _, rfl⟩
  · split <;> exact ⟨_, _, rfl⟩

/-- The overlay check can only unmap. -/
theorem unmapBoot_shape (s : State) :
    ∃ b, unmapBoot s = { s with bootMapped := b } ∧ (b = s.bootMapped ∨ b = false) := by
  unfold unmapBoot
  split
  · exact ⟨_, rfl, .inr rfl⟩
  · exact ⟨_, rfl, .inl rfl⟩

/-- The wake can only set `run` to Running. -/
theorem wake_shape (s : State) :
    ∃ r, wake s = { s with cpu := { s.cpu with run := r } } ∧ (r = s.cpu.run ∨ r = .running) := by
  unfold wake
  split
  · exact ⟨_, rfl, .inl rfl⟩
  · split
    · exact ⟨_, rfl, .inl rfl⟩
    · exact ⟨_, rfl, .inr rfl⟩
  · split
    · exact ⟨_, rfl, .inr rfl⟩
    · split
      · exact ⟨_, rfl, .inl rfl⟩
      · exact ⟨_, rfl, .inr rfl⟩

/-- What stands between the start of a step and its fetch. -/
theorem atFetch_shape (s : State) : ∃ j r b run,
    s.atFetch = { s with joypadEvents := j, irq := { s.irq with request := r }, bootMapped := b
                         cpu := { s.cpu with run := run } }
      ∧ (b = s.bootMapped ∨ b = false) ∧ (run = s.cpu.run ∨ run = .running) := by
  unfold State.atFetch
  obtain ⟨j, r, h1⟩ := hostTurn_shape s
  obtain ⟨b, h2, hb⟩ := unmapBoot_shape (hostTurn s)
  obtain ⟨run, h3, hr⟩ := wake_shape (unmapBoot (hostTurn s))
  rw [h3, h2, h1] at *
  exact ⟨j, r, b, run, rfl, hb, hr⟩

/-- PC is the same at the fetch. -/
@[simp] theorem atFetch_pc (s : State) : s.atFetch.cpu.pc = s.cpu.pc := by
  obtain ⟨_, _, _, _, h, _⟩ := atFetch_shape s
  rw [h]

/-- The parameters are the same at the fetch. -/
@[simp] theorem atFetch_config (s : State) : s.atFetch.config = s.config := by
  obtain ⟨_, _, _, _, h, _⟩ := atFetch_shape s
  rw [h]

/-- A step of a state that can go on. -/
theorem step_of_goesOn (s : State) (h : s.goesOn = true) : step s = match dispatchOrRun s.atFetch with
    | .next t => finishStep t
    | .fault f => .fault f
    | .refused r => .refused r := by
  simp only [State.goesOn, Bool.and_eq_true, Option.isNone_iff_eq_none, Bool.not_eq_true'] at h
  unfold step systemStep
  rw [h.1, h.2]
  rfl

/-- A step answers a next state only where it can go on. -/
theorem goesOn_of_step (s t : State) (h : step s = .next t) : s.goesOn = true := by
  unfold step systemStep at h
  split at h
  · cases h
  · split at h
    · cases h
    · simp [State.goesOn, *]

/-- The end of a step that goes on. -/
theorem finishStep_next (u t : State) (h : finishStep u = .next t) : u.dmaWritten = false ∧ t = advanceDevices u := by
  unfold finishStep at h
  split at h
  · cases h
  · split at h
    · cases h
    · cases h
      simp_all

/-- A step that goes on: a dispatch, a wait or an instruction, then the devices. -/
theorem step_next (s t : State) (h : step s = .next t) :
    s.goesOn = true ∧ ∃ u, dispatchOrRun s.atFetch = .next u ∧ u.dmaWritten = false ∧ t = advanceDevices u := by
  have hg := goesOn_of_step s t h
  rw [step_of_goesOn s hg] at h
  refine ⟨hg, ?_⟩
  split at h
  · rename_i u hu
    exact ⟨u, hu, finishStep_next u t h⟩
  · cases h
  · cases h

/-- A change of the CPU before some stores is one after them. -/
theorem stored_withCpu (ws : List (Word × Byte)) (s : State) (c : Cpu) :
    ∃ d, stored { s with cpu := c } ws = { stored s ws with cpu := d } := by
  induction ws generalizing s c with
  | nil => exact ⟨_, rfl⟩
  | cons w ws ih =>
    simp only [stored, busWrite_withCpu]
    exact ih _ _

/-- Stores leave the configuration, and the overlay mapped as it is. -/
theorem stored_fixedPart (ws : List (Word × Byte)) (s : State) :
    (stored s ws).fixedPart = s.fixedPart ∧ (stored s ws).bootMapped = s.bootMapped :=
  stored_induction (P := fun t => t.fixedPart = s.fixedPart ∧ t.bootMapped = s.bootMapped)
    (fun u a v h => by
      simp only [State.fixedPart, busWrite_cart, busWrite_boot, busWrite_config, busWrite_bootMapped]
      exact h) ws s ⟨rfl, rfl⟩

/-- What the CPU's part of a step can do: at most two stores, a new CPU, a cycle count, and an acknowledge. `ei_pending` is
left set only by EI, while running, or where nothing ran. -/
def CpuCompletes (s t : State) : Prop :=
  ∃ (ws : List (Word × Byte)) (c : Cpu) (n : Nat) (ack : Irq → Irq), ws.length ≤ 2 ∧ n ∈ [4, 8, 12, 16, 20, 24]
    ∧ c.fault = s.cpu.fault
    ∧ (c.eiPending = true → c.run = .running ∧ s.config.eiDelay = .one
        ∨ s.cpu.eiPending = true ∧ c.run = s.cpu.run ∧ s.cpu.run ≠ .running)
    ∧ t = { stored s ws with cpu := c, cycles := n, irq := ack (stored s ws).irq }

/-- A dispatch, as two stores and the rest. -/
theorem dispatchIrq_eq (k : IrqSource) (s : State) :
    let u := busWrite (busWrite s (s.cpu.sp - 1) (hi8 s.cpu.pc)) (s.cpu.sp - 2) (lo8 s.cpu.pc)
    dispatchIrq k s =
      { u with cpu := { s.cpu with ime := false, eiPending := false, sp := s.cpu.sp - 2, pc := k.vector }
               cycles := 20, irq := { u.irq with request := u.irq.request &&& ~~~k.mask } } := by
  unfold dispatchIrq
  rw [push16_eq]
  simp only [State.setIme, busWrite_withCpu, State.setPc, acknowledgeIrq, State.took]

/-- Everything that the CPU's part of a step can do. -/
theorem dispatchOrRun_next (s t : State) (h : dispatchOrRun s = .next t) : CpuCompletes s t := by
  unfold dispatchOrRun at h
  split at h
  · rename_i k _
    cases h
    refine ⟨[(s.cpu.sp - 1, hi8 s.cpu.pc), (s.cpu.sp - 2, lo8 s.cpu.pc)],
      { s.cpu with ime := false, eiPending := false, sp := s.cpu.sp - 2, pc := k.vector }, 20,
      fun i => { i with request := i.request &&& ~~~k.mask }, by simp, by simp, rfl, by simp, ?_⟩
    rw [dispatchIrq_eq]
    rfl
  · split at h
    · rename_i hrun
      unfold runInstr at h
      split at h
      · rename_i u hu
        obtain ⟨ws, c, n, hl, hn, hc, rfl⟩ := exec_completes _ _ _ hu
        obtain ⟨d, key⟩ := stored_withCpu ws s (advancePc (fetched s) s).cpu
        have e : advancePc (fetched s) s = { s with cpu := (advancePc (fetched s) s).cpu } := rfl
        rw [e, key] at h
        have hf := hc.fault
        have hei := hc.ei
        simp only [advancePc, State.setPc] at hf hei
        cases h
        unfold applyEiDelay
        by_cases hp : (s.cpu.eiPending && c.eiPending) = true
        · simp only [hp, if_true]
          exact ⟨ws, { c with ime := true, eiPending := false }, n, id, hl, hn, hf, by simp, rfl⟩
        · simp only [hp]
          refine ⟨ws, c, n, id, hl, hn, hf, fun hce => ?_, rfl⟩
          rcases hei with hei | hei | hei
          · rw [hei] at hce; cases hce
          · rw [← hei, hce] at hp; exact absurd rfl hp
          · exact .inl ⟨hei.2.trans hrun, hei.1⟩
      · cases h
      · cases h
    · cases h
      exact ⟨[], s.cpu, 4, id, by simp, by simp, rfl, fun h => .inr ⟨h, rfl, ‹_›⟩, rfl⟩

end Sys2Proof.Laws
end

