-- ==== Sys2Proof/Tests/Slice0.lean ====
section
/-! SUPPORT. Sys2Proof/Tests/Slice0.lean: the model's own tests: the well-formedness smoke test, the decoding of every row of
the opcode tables, single steps of 95_test_vectors.md, and for every obligation with hypotheses a concrete state that meets
them (the theorems named `witness_…`). -/

namespace Sys2Proof.Tests

open Sys2Proof.Machine

/-! ### Builders -/

/-- The CPU of the vectors' start state (95_test_vectors.md, Conventions): everything zero, running. -/
def zeroCpu : Cpu where
  a := 0
  b := 0
  c := 0
  d := 0
  e := 0
  h := 0
  l := 0
  flags := Flags.ofByte 0
  sp := 0
  pc := 0
  ime := false
  eiPending := false
  run := .running
  fault := none

/-- The vectors' start state with a CPU, the code's bytes that are not zero by image offset, and memory bytes. A vector
takes `RESET_RAM` = zeros (95_test_vectors.md, Conventions), so a byte that it reads unwritten is listed as 0x00. -/
def startIn (cpu : Cpu) (code : Memory) (mem : Memory) (irq : Irq := ⟨0, 0⟩) : State :=
  { State.reset with
    cpu := cpu
    irq := irq
    timer := { div := 0, tima := 0, tma := 0, tac := 0, divAcc := 0, timaAcc := 0 }
    ppu := { Ppu.reset with lcdc := 0, mode3Len := 172 }
    mem := mem
    cart := { Cart.blank with image := code } }

/-- The start state with nothing in it: PC = 0x0100, where the byte is 0x00 (NOP). -/
def blank : State :=
  startIn { zeroCpu with pc := 0x0100, sp := 0xFFFE } [] []

/-- The blank state with an MBC1 of 128 KiB and 8 KiB of external RAM, enabled. -/
def banked : State :=
  { blank with
    cart := { size := 0x20000, image := [], kind := .mbc1, eramSize := 0x2000 }
    mbc := { romLo5 := 1, bank2 := 0, ramEnable := true, bankMode := false } }

/-- Whether an outcome is a next state with a property. -/
def nextWith (r : Result) (p : State → Bool) : Bool :=
  match r with
  | .next t => p t
  | _ => false

/-- Whether the step of a state is a next state with a property. -/
def ends (s : State) (p : State → Bool) : Bool :=
  nextWith (step s) p

/-! ### Well-formed terms -/

/-- An `invalid` term with a byte that the main table uses is refused: 0x00 is NOP (30_encoding.md R83). -/
theorem test_ill_formed_nop_byte : ¬ WellFormed (.invalid 0x00) := by decide

/-- So is the escape byte. -/
theorem test_ill_formed_escape_byte : ¬ WellFormed (.invalid 0xCB) := by decide

/-- The last of the 11 invalid bytes is accepted (R83). -/
theorem test_well_formed_last_invalid : WellFormed (.invalid 0xFD) := by decide

/-! ### Decoding

The words stand as the spec's encodings give them: the fields x, y, z of 30_encoding.md R72, then every row of both
tables. -/

/-- LD C,B (40_load.md R87): `01 ddd sss` with ddd = 001 (C) and sss = 000 (B). -/
theorem test_decode_bits_ld_C_B : decode [0b01#2 ++ 0b001#3 ++ 0b000#3] = .ok .ld_C_B := rfl

/-- SBC A,H (41_alu8.md R131): `10 011 sss` with sss = 100 (H). -/
theorem test_decode_bits_sbc_A_H : decode [0b10#2 ++ 0b011#3 ++ 0b100#3] = .ok .sbc_A_H := rfl

/-- ADD HL,DE (42_alu16.md R156): `00 pp 1001` with pp = 01 (DE). -/
theorem test_decode_bits_add_HL_DE : decode [0b00#2 ++ 0b01#2 ++ 0b1001#4] = .ok .add_HL_DE := rfl

/-- BIT 7,(HL) (43_rotate_shift_bit.md R181): the escape byte, then `01 bbb 110` with bbb = 111. -/
theorem test_decode_bits_bit_7_atHL : decode [0b11001011, 0b01#2 ++ 0b111#3 ++ 0b110#3] = .ok .bit_7_atHL := rfl

/-- JR NZ,e8 (44_control.md R190): `00 1cc 000` with cc = 00 (NZ), then the offset. -/
theorem test_decode_bits_jr_NZ : decode [0b00#2 ++ 0b1#1 ++ 0b00#2 ++ 0b000#3, 0xFC] = .ok (.jr_NZ_e8 0xFC) := rfl

/-- HALT (45_system.md R199) stands where `LD (HL),(HL)` would: `01 110 110`. -/
theorem test_decode_bits_halt : decode [0b01#2 ++ 0b110#3 ++ 0b110#3] = .ok .halt := rfl

/-- A 16-bit operand is read low byte first (20_memory.md R58). -/
theorem test_decode_operand_order : decode [0xCD, 0x00, 0x20] = .ok (.call_a16 0x2000) := rfl

/-- An instruction cut short is refused, with the bytes it needs: a decoder of bytes, not of memory. -/
theorem test_decode_short : (decode [0xCD, 0x00]).toOption = none := rfl

/-- The instructions of 16 main-table bytes, each followed by the bytes 0x34 and 0x12. -/
def mainRow (first : Nat) : List Instr :=
  (List.range 16).map (fun k => decodeWindow (BitVec.ofNat 8 (first + k)) 0x34 0x12)

/-- The instructions of 16 CB-table bytes. -/
def cbRow (first : Nat) : List Instr :=
  (List.range 16).map (fun k => decodeWindow 0xCB (BitVec.ofNat 8 (first + k)) 0x00)

/-- The main-table bytes 0x00 to 0x0F. -/
theorem test_decode_main_0 : mainRow 0x00 =
    [.nop, .ld_BC_d16 0x1234, .ld_atBC_A, .inc_BC, .inc_B, .dec_B, .ld_B_d8 0x34, .rlca, .ld_ata16_SP 0x1234,
     .add_HL_BC, .ld_A_atBC, .dec_BC, .inc_C, .dec_C, .ld_C_d8 0x34, .rrca] := rfl

/-- The main-table bytes 0x10 to 0x1F. -/
theorem test_decode_main_1 : mainRow 0x10 =
    [.stop, .ld_DE_d16 0x1234, .ld_atDE_A, .inc_DE, .inc_D, .dec_D, .ld_D_d8 0x34, .rla, .jr_e8 0x34, .add_HL_DE,
     .ld_A_atDE, .dec_DE, .inc_E, .dec_E, .ld_E_d8 0x34, .rra] := rfl

/-- The main-table bytes 0x20 to 0x2F. -/
theorem test_decode_main_2 : mainRow 0x20 =
    [.jr_NZ_e8 0x34, .ld_HL_d16 0x1234, .ld_atHLinc_A, .inc_HL, .inc_H, .dec_H, .ld_H_d8 0x34, .daa, .jr_Z_e8
     0x34, .add_HL_HL, .ld_A_atHLinc, .dec_HL, .inc_L, .dec_L, .ld_L_d8 0x34, .cpl] := rfl

/-- The main-table bytes 0x30 to 0x3F. -/
theorem test_decode_main_3 : mainRow 0x30 =
    [.jr_NC_e8 0x34, .ld_SP_d16 0x1234, .ld_atHLdec_A, .inc_SP, .inc_atHL, .dec_atHL, .ld_atHL_d8 0x34, .scf,
     .jr_C_e8 0x34, .add_HL_SP, .ld_A_atHLdec, .dec_SP, .inc_A, .dec_A, .ld_A_d8 0x34, .ccf] := rfl

/-- The main-table bytes 0x40 to 0x4F. -/
theorem test_decode_main_4 : mainRow 0x40 =
    [.ld_B_B, .ld_B_C, .ld_B_D, .ld_B_E, .ld_B_H, .ld_B_L, .ld_B_atHL, .ld_B_A, .ld_C_B, .ld_C_C, .ld_C_D,
     .ld_C_E, .ld_C_H, .ld_C_L, .ld_C_atHL, .ld_C_A] := rfl

/-- The main-table bytes 0x50 to 0x5F. -/
theorem test_decode_main_5 : mainRow 0x50 =
    [.ld_D_B, .ld_D_C, .ld_D_D, .ld_D_E, .ld_D_H, .ld_D_L, .ld_D_atHL, .ld_D_A, .ld_E_B, .ld_E_C, .ld_E_D,
     .ld_E_E, .ld_E_H, .ld_E_L, .ld_E_atHL, .ld_E_A] := rfl

/-- The main-table bytes 0x60 to 0x6F. -/
theorem test_decode_main_6 : mainRow 0x60 =
    [.ld_H_B, .ld_H_C, .ld_H_D, .ld_H_E, .ld_H_H, .ld_H_L, .ld_H_atHL, .ld_H_A, .ld_L_B, .ld_L_C, .ld_L_D,
     .ld_L_E, .ld_L_H, .ld_L_L, .ld_L_atHL, .ld_L_A] := rfl

/-- The main-table bytes 0x70 to 0x7F. -/
theorem test_decode_main_7 : mainRow 0x70 =
    [.ld_atHL_B, .ld_atHL_C, .ld_atHL_D, .ld_atHL_E, .ld_atHL_H, .ld_atHL_L, .halt, .ld_atHL_A, .ld_A_B, .ld_A_C,
     .ld_A_D, .ld_A_E, .ld_A_H, .ld_A_L, .ld_A_atHL, .ld_A_A] := rfl

/-- The main-table bytes 0x80 to 0x8F. -/
theorem test_decode_main_8 : mainRow 0x80 =
    [.add_A_B, .add_A_C, .add_A_D, .add_A_E, .add_A_H, .add_A_L, .add_A_atHL, .add_A_A, .adc_A_B, .adc_A_C,
     .adc_A_D, .adc_A_E, .adc_A_H, .adc_A_L, .adc_A_atHL, .adc_A_A] := rfl

/-- The main-table bytes 0x90 to 0x9F. -/
theorem test_decode_main_9 : mainRow 0x90 =
    [.sub_A_B, .sub_A_C, .sub_A_D, .sub_A_E, .sub_A_H, .sub_A_L, .sub_A_atHL, .sub_A_A, .sbc_A_B, .sbc_A_C,
     .sbc_A_D, .sbc_A_E, .sbc_A_H, .sbc_A_L, .sbc_A_atHL, .sbc_A_A] := rfl

/-- The main-table bytes 0xA0 to 0xAF. -/
theorem test_decode_main_A : mainRow 0xA0 =
    [.and_A_B, .and_A_C, .and_A_D, .and_A_E, .and_A_H, .and_A_L, .and_A_atHL, .and_A_A, .xor_A_B, .xor_A_C,
     .xor_A_D, .xor_A_E, .xor_A_H, .xor_A_L, .xor_A_atHL, .xor_A_A] := rfl

/-- The main-table bytes 0xB0 to 0xBF. -/
theorem test_decode_main_B : mainRow 0xB0 =
    [.or_A_B, .or_A_C, .or_A_D, .or_A_E, .or_A_H, .or_A_L, .or_A_atHL, .or_A_A, .cp_A_B, .cp_A_C, .cp_A_D,
     .cp_A_E, .cp_A_H, .cp_A_L, .cp_A_atHL, .cp_A_A] := rfl

/-- The main-table bytes 0xC0 to 0xCF (0xCB is followed by 0x34). -/
theorem test_decode_main_C : mainRow 0xC0 =
    [.ret_NZ, .pop_BC, .jp_NZ_a16 0x1234, .jp_a16 0x1234, .call_NZ_a16 0x1234, .push_BC, .add_A_d8 0x34, .rst_00,
     .ret_Z, .ret, .jp_Z_a16 0x1234, .swap_H, .call_Z_a16 0x1234, .call_a16 0x1234, .adc_A_d8 0x34, .rst_08] := rfl

/-- The main-table bytes 0xD0 to 0xDF. -/
theorem test_decode_main_D : mainRow 0xD0 =
    [.ret_NC, .pop_DE, .jp_NC_a16 0x1234, .invalid 0xD3, .call_NC_a16 0x1234, .push_DE, .sub_A_d8 0x34, .rst_10,
     .ret_C, .reti, .jp_C_a16 0x1234, .invalid 0xDB, .call_C_a16 0x1234, .invalid 0xDD, .sbc_A_d8 0x34,
     .rst_18] := rfl

/-- The main-table bytes 0xE0 to 0xEF. -/
theorem test_decode_main_E : mainRow 0xE0 =
    [.ldh_ata8_A 0x34, .pop_HL, .ld_atC_A, .invalid 0xE3, .invalid 0xE4, .push_HL, .and_A_d8 0x34, .rst_20,
     .add_SP_e8 0x34, .jp_HL, .ld_ata16_A 0x1234, .invalid 0xEB, .invalid 0xEC, .invalid 0xED, .xor_A_d8 0x34,
     .rst_28] := rfl

/-- The main-table bytes 0xF0 to 0xFF. -/
theorem test_decode_main_F : mainRow 0xF0 =
    [.ldh_A_ata8 0x34, .pop_AF, .ld_A_atC, .di, .invalid 0xF4, .push_AF, .or_A_d8 0x34, .rst_30, .ld_HL_SPe8 0x34,
     .ld_SP_HL, .ld_A_ata16 0x1234, .ei, .invalid 0xFC, .invalid 0xFD, .cp_A_d8 0x34, .rst_38] := rfl

/-- The CB-table bytes 0x00 to 0x0F. -/
theorem test_decode_cb_0 : cbRow 0x00 =
    [.rlc_B, .rlc_C, .rlc_D, .rlc_E, .rlc_H, .rlc_L, .rlc_atHL, .rlc_A, .rrc_B, .rrc_C, .rrc_D, .rrc_E, .rrc_H,
     .rrc_L, .rrc_atHL, .rrc_A] := rfl

/-- The CB-table bytes 0x10 to 0x1F. -/
theorem test_decode_cb_1 : cbRow 0x10 =
    [.rl_B, .rl_C, .rl_D, .rl_E, .rl_H, .rl_L, .rl_atHL, .rl_A, .rr_B, .rr_C, .rr_D, .rr_E, .rr_H, .rr_L,
     .rr_atHL, .rr_A] := rfl

/-- The CB-table bytes 0x20 to 0x2F. -/
theorem test_decode_cb_2 : cbRow 0x20 =
    [.sla_B, .sla_C, .sla_D, .sla_E, .sla_H, .sla_L, .sla_atHL, .sla_A, .sra_B, .sra_C, .sra_D, .sra_E, .sra_H,
     .sra_L, .sra_atHL, .sra_A] := rfl

/-- The CB-table bytes 0x30 to 0x3F. -/
theorem test_decode_cb_3 : cbRow 0x30 =
    [.swap_B, .swap_C, .swap_D, .swap_E, .swap_H, .swap_L, .swap_atHL, .swap_A, .srl_B, .srl_C, .srl_D, .srl_E,
     .srl_H, .srl_L, .srl_atHL, .srl_A] := rfl

/-- The CB-table bytes 0x40 to 0x4F. -/
theorem test_decode_cb_4 : cbRow 0x40 =
    [.bit_0_B, .bit_0_C, .bit_0_D, .bit_0_E, .bit_0_H, .bit_0_L, .bit_0_atHL, .bit_0_A, .bit_1_B, .bit_1_C,
     .bit_1_D, .bit_1_E, .bit_1_H, .bit_1_L, .bit_1_atHL, .bit_1_A] := rfl

/-- The CB-table bytes 0x50 to 0x5F. -/
theorem test_decode_cb_5 : cbRow 0x50 =
    [.bit_2_B, .bit_2_C, .bit_2_D, .bit_2_E, .bit_2_H, .bit_2_L, .bit_2_atHL, .bit_2_A, .bit_3_B, .bit_3_C,
     .bit_3_D, .bit_3_E, .bit_3_H, .bit_3_L, .bit_3_atHL, .bit_3_A] := rfl

/-- The CB-table bytes 0x60 to 0x6F. -/
theorem test_decode_cb_6 : cbRow 0x60 =
    [.bit_4_B, .bit_4_C, .bit_4_D, .bit_4_E, .bit_4_H, .bit_4_L, .bit_4_atHL, .bit_4_A, .bit_5_B, .bit_5_C,
     .bit_5_D, .bit_5_E, .bit_5_H, .bit_5_L, .bit_5_atHL, .bit_5_A] := rfl

/-- The CB-table bytes 0x70 to 0x7F. -/
theorem test_decode_cb_7 : cbRow 0x70 =
    [.bit_6_B, .bit_6_C, .bit_6_D, .bit_6_E, .bit_6_H, .bit_6_L, .bit_6_atHL, .bit_6_A, .bit_7_B, .bit_7_C,
     .bit_7_D, .bit_7_E, .bit_7_H, .bit_7_L, .bit_7_atHL, .bit_7_A] := rfl

/-- The CB-table bytes 0x80 to 0x8F. -/
theorem test_decode_cb_8 : cbRow 0x80 =
    [.res_0_B, .res_0_C, .res_0_D, .res_0_E, .res_0_H, .res_0_L, .res_0_atHL, .res_0_A, .res_1_B, .res_1_C,
     .res_1_D, .res_1_E, .res_1_H, .res_1_L, .res_1_atHL, .res_1_A] := rfl

/-- The CB-table bytes 0x90 to 0x9F. -/
theorem test_decode_cb_9 : cbRow 0x90 =
    [.res_2_B, .res_2_C, .res_2_D, .res_2_E, .res_2_H, .res_2_L, .res_2_atHL, .res_2_A, .res_3_B, .res_3_C,
     .res_3_D, .res_3_E, .res_3_H, .res_3_L, .res_3_atHL, .res_3_A] := rfl

/-- The CB-table bytes 0xA0 to 0xAF. -/
theorem test_decode_cb_A : cbRow 0xA0 =
    [.res_4_B, .res_4_C, .res_4_D, .res_4_E, .res_4_H, .res_4_L, .res_4_atHL, .res_4_A, .res_5_B, .res_5_C,
     .res_5_D, .res_5_E, .res_5_H, .res_5_L, .res_5_atHL, .res_5_A] := rfl

/-- The CB-table bytes 0xB0 to 0xBF. -/
theorem test_decode_cb_B : cbRow 0xB0 =
    [.res_6_B, .res_6_C, .res_6_D, .res_6_E, .res_6_H, .res_6_L, .res_6_atHL, .res_6_A, .res_7_B, .res_7_C,
     .res_7_D, .res_7_E, .res_7_H, .res_7_L, .res_7_atHL, .res_7_A] := rfl

/-- The CB-table bytes 0xC0 to 0xCF. -/
theorem test_decode_cb_C : cbRow 0xC0 =
    [.set_0_B, .set_0_C, .set_0_D, .set_0_E, .set_0_H, .set_0_L, .set_0_atHL, .set_0_A, .set_1_B, .set_1_C,
     .set_1_D, .set_1_E, .set_1_H, .set_1_L, .set_1_atHL, .set_1_A] := rfl

/-- The CB-table bytes 0xD0 to 0xDF. -/
theorem test_decode_cb_D : cbRow 0xD0 =
    [.set_2_B, .set_2_C, .set_2_D, .set_2_E, .set_2_H, .set_2_L, .set_2_atHL, .set_2_A, .set_3_B, .set_3_C,
     .set_3_D, .set_3_E, .set_3_H, .set_3_L, .set_3_atHL, .set_3_A] := rfl

/-- The CB-table bytes 0xE0 to 0xEF. -/
theorem test_decode_cb_E : cbRow 0xE0 =
    [.set_4_B, .set_4_C, .set_4_D, .set_4_E, .set_4_H, .set_4_L, .set_4_atHL, .set_4_A, .set_5_B, .set_5_C,
     .set_5_D, .set_5_E, .set_5_H, .set_5_L, .set_5_atHL, .set_5_A] := rfl

/-- The CB-table bytes 0xF0 to 0xFF. -/
theorem test_decode_cb_F : cbRow 0xF0 =
    [.set_6_B, .set_6_C, .set_6_D, .set_6_E, .set_6_H, .set_6_L, .set_6_atHL, .set_6_A, .set_7_B, .set_7_C,
     .set_7_D, .set_7_E, .set_7_H, .set_7_L, .set_7_atHL, .set_7_A] := rfl

/-! ### Single steps of 95_test_vectors.md -/

/-- Vector LD2 of 95_test_vectors.md, part 2: the bytes `7E`. -/
theorem test_LD2 : ends
    (startIn { zeroCpu with h := 0xC0, l := 0x00, pc := 0x0100 } [(0x0100, 0x7E)] [(0xC000, 0x5A)])
    (fun t => t.cpu.a == 0x5A && t.hl == 0xC000 && t.cycles == 8) = true := by
  decide

/-- Vector LD5 of 95_test_vectors.md, part 2: the bytes `36 42`. -/
theorem test_LD5 : ends
    (startIn { zeroCpu with h := 0xC0, l := 0x20, pc := 0x0100 } [(0x0100, 0x36), (0x0101, 0x42)] [])
    (fun t => busRead 0 t 0xC020 == 0x42 && t.cpu.pc == 0x0102 && t.cycles == 12) = true := by
  decide

/-- Vector LD8 of 95_test_vectors.md, part 2: the bytes `2A`. -/
theorem test_LD8 : ends
    (startIn { zeroCpu with h := 0xC0, l := 0x40, pc := 0x0100 } [(0x0100, 0x2A)] [(0xC040, 0x33)])
    (fun t => t.cpu.a == 0x33 && t.hl == 0xC041 && t.cycles == 8) = true := by
  decide

/-- Vector LD10 of 95_test_vectors.md, part 2: the bytes `22`. -/
theorem test_LD10 : ends
    (startIn { zeroCpu with h := 0xFF, l := 0xFF, a := 0x1F, pc := 0x0100 } [(0x0100, 0x22)] [])
    (fun t => t.irq.enable == 0x1F && t.hl == 0x0000 && t.cycles == 8) = true := by
  decide

/-- Vector LD11 of 95_test_vectors.md, part 2: the bytes `32`. -/
theorem test_LD11 : ends
    (startIn { zeroCpu with h := 0xC0, l := 0x00, a := 0x55, pc := 0x0100 } [(0x0100, 0x32)] [])
    (fun t => busRead 0 t 0xC000 == 0x55 && t.hl == 0xBFFF && t.cycles == 8) = true := by
  decide

/-- Vector LD15 of 95_test_vectors.md, part 2: the bytes `E0 0F`. -/
theorem test_LD15 : ends
    (startIn { zeroCpu with a := 0x01, pc := 0x0100 } [(0x0100, 0xE0), (0x0101, 0x0F)] [])
    (fun t => t.irq.request == 0x01 && t.cycles == 12) = true := by
  decide

/-- Vector LD19 of 95_test_vectors.md, part 2: the bytes `08 00 C1`. -/
theorem test_LD19 : ends
    (startIn { zeroCpu with sp := 0xFFF8, pc := 0x0100 } [(0x0100, 0x08), (0x0102, 0xC1)] [])
    (fun t => busRead 0 t 0xC100 == 0xF8 && busRead 0 t 0xC101 == 0xFF && t.cycles == 20) = true := by
  decide

/-- Vector LD21 of 95_test_vectors.md, part 2: the bytes `C5`. -/
theorem test_LD21 : ends
    (startIn { zeroCpu with sp := 0xFFFE, b := 0x12, c := 0x34, pc := 0x0100 } [(0x0100, 0xC5)] [])
    (fun t => t.cpu.sp == 0xFFFC && busRead 0 t 0xFFFD == 0x12 && busRead 0 t 0xFFFC == 0x34 && t.cycles == 16) = true
      := by
  decide

/-- Vector LD24 of 95_test_vectors.md, part 2: the bytes `F1`. -/
theorem test_LD24 : ends
    (startIn { zeroCpu with sp := 0xFFFC, pc := 0x0100 } [(0x0100, 0xF1)] [(0xFFFC, 0xFF), (0xFFFD, 0x12)])
    (fun t => t.cpu.a == 0x12 && t.cpu.flags.toByte == 0xF0 && t.cpu.sp == 0xFFFE && t.cycles == 12) = true := by
  decide

/-- Vector A1 of 95_test_vectors.md, part 2: the bytes `80`. -/
theorem test_A1 : ends
    (startIn { zeroCpu with a := 0x3A, b := 0xC6, pc := 0x0100 } [(0x0100, 0x80)] [])
    (fun t => t.cpu.a == 0x00 && t.cpu.flags.toByte == 0xB0 && t.cycles == 4) = true := by
  decide

/-- Vector A4 of 95_test_vectors.md, part 2: the bytes `CE 00`. -/
theorem test_A4 : ends
    (startIn { zeroCpu with a := 0xFF, flags := Flags.ofByte 0x10, pc := 0x0100 } [(0x0100, 0xCE)] [])
    (fun t => t.cpu.a == 0x00 && t.cpu.flags.toByte == 0xB0 && t.cycles == 8) = true := by
  decide

/-- Vector A8 of 95_test_vectors.md, part 2: the bytes `9C`. -/
theorem test_A8 : ends
    (startIn { zeroCpu with a := 0x3B, h := 0x2A, flags := Flags.ofByte 0x10, pc := 0x0100 } [(0x0100, 0x9C)] [])
    (fun t => t.cpu.a == 0x10 && t.cpu.flags.toByte == 0x40 && t.cycles == 4) = true := by
  decide

/-- Vector A10 of 95_test_vectors.md, part 2: the bytes `A5`. -/
theorem test_A10 : ends
    (startIn { zeroCpu with a := 0x5A, l := 0x3F, pc := 0x0100 } [(0x0100, 0xA5)] [])
    (fun t => t.cpu.a == 0x1A && t.cpu.flags.toByte == 0x20 && t.cycles == 4) = true := by
  decide

/-- Vector A13 of 95_test_vectors.md, part 2: the bytes `B8`. -/
theorem test_A13 : ends
    (startIn { zeroCpu with a := 0x3C, b := 0x2F, pc := 0x0100 } [(0x0100, 0xB8)] [])
    (fun t => t.cpu.a == 0x3C && t.cpu.flags.toByte == 0x60 && t.cycles == 4) = true := by
  decide

/-- Vector A14 of 95_test_vectors.md, part 2: the bytes `FE 40`. -/
theorem test_A14 : ends
    (startIn { zeroCpu with a := 0x3C, pc := 0x0100 } [(0x0100, 0xFE), (0x0101, 0x40)] [])
    (fun t => t.cpu.a == 0x3C && t.cpu.flags.toByte == 0x50 && t.cycles == 8) = true := by
  decide

/-- Vector A15 of 95_test_vectors.md, part 2: the bytes `3C`. -/
theorem test_A15 : ends
    (startIn { zeroCpu with a := 0xFF, flags := Flags.ofByte 0x10, pc := 0x0100 } [(0x0100, 0x3C)] [])
    (fun t => t.cpu.a == 0x00 && t.cpu.flags.toByte == 0xB0 && t.cycles == 4) = true := by
  decide

/-- Vector A16 of 95_test_vectors.md, part 2: the bytes `35`. -/
theorem test_A16 : ends
    (startIn { zeroCpu with h := 0xC0, l := 0x00, pc := 0x0100 } [(0x0100, 0x35)] [(0xC000, 0x00)])
    (fun t => busRead 0 t 0xC000 == 0xFF && t.cpu.flags.toByte == 0x60 && t.cycles == 12) = true := by
  decide

/-- Vector A33 of 95_test_vectors.md, part 2: the bytes `B0`. -/
theorem test_A33 : ends
    (startIn { zeroCpu with a := 0x00, b := 0x00, flags := Flags.ofByte 0x70, pc := 0x0100 } [(0x0100, 0xB0)] [])
    (fun t => t.cpu.a == 0x00 && t.cpu.flags.toByte == 0x80 && t.cycles == 4) = true := by
  decide

/-- Vector A37 of 95_test_vectors.md, part 2: the bytes `05`. -/
theorem test_A37 : ends
    (startIn { zeroCpu with b := 0x01, flags := Flags.ofByte 0x10, pc := 0x0100 } [(0x0100, 0x05)] [])
    (fun t => t.cpu.b == 0x00 && t.cpu.flags.toByte == 0xD0 && t.cycles == 4) = true := by
  decide

/-- Vector A20 of 95_test_vectors.md, part 2: the bytes `2F`. -/
theorem test_A20 : ends
    (startIn { zeroCpu with a := 0x35, flags := Flags.ofByte 0x00, pc := 0x0100 } [(0x0100, 0x2F)] [])
    (fun t => t.cpu.a == 0xCA && t.cpu.flags.toByte == 0x60 && t.cycles == 4) = true := by
  decide

/-- Vector A21 of 95_test_vectors.md, part 2: the bytes `37`. -/
theorem test_A21 : ends
    (startIn { zeroCpu with flags := Flags.ofByte 0x80, pc := 0x0100 } [(0x0100, 0x37)] [])
    (fun t => t.cpu.flags.toByte == 0x90 && t.cycles == 4) = true := by
  decide

/-- Vector A22 of 95_test_vectors.md, part 2: the bytes `3F`. -/
theorem test_A22 : ends
    (startIn { zeroCpu with flags := Flags.ofByte 0x70, pc := 0x0100 } [(0x0100, 0x3F)] [])
    (fun t => t.cpu.flags.toByte == 0x00 && t.cycles == 4) = true := by
  decide

/-- Vector W1 of 95_test_vectors.md, part 2: the bytes `03`. -/
theorem test_W1 : ends
    (startIn { zeroCpu with b := 0xFF, c := 0xFF, flags := Flags.ofByte 0x00, pc := 0x0100 } [(0x0100, 0x03)] [])
    (fun t => t.bc == 0x0000 && t.cpu.flags.toByte == 0x00 && t.cycles == 8) = true := by
  decide

/-- Vector W2 of 95_test_vectors.md, part 2: the bytes `3B`. -/
theorem test_W2 : ends
    (startIn { zeroCpu with sp := 0x0000, pc := 0x0100 } [(0x0100, 0x3B)] [])
    (fun t => t.cpu.sp == 0xFFFF && t.cycles == 8) = true := by
  decide

/-- Vector W3 of 95_test_vectors.md, part 2: the bytes `19`. -/
theorem test_W3 : ends
    (startIn { zeroCpu with h := 0x8A, l := 0x23, d := 0x06, e := 0x05, flags := Flags.ofByte 0x80, pc := 0x0100 }
      [(0x0100, 0x19)] [])
    (fun t => t.hl == 0x9028 && t.cpu.flags.toByte == 0xA0 && t.cycles == 8) = true := by
  decide

/-- Vector W6 of 95_test_vectors.md, part 2: the bytes `E8 08`. -/
theorem test_W6 : ends
    (startIn { zeroCpu with sp := 0xFFF8, pc := 0x0100 } [(0x0100, 0xE8), (0x0101, 0x08)] [])
    (fun t => t.cpu.sp == 0x0000 && t.cpu.flags.toByte == 0x30 && t.cycles == 16) = true := by
  decide

/-- Vector W8 of 95_test_vectors.md, part 2: the bytes `E8 FF`. -/
theorem test_W8 : ends
    (startIn { zeroCpu with sp := 0x0000, pc := 0x0100 } [(0x0100, 0xE8), (0x0101, 0xFF)] [])
    (fun t => t.cpu.sp == 0xFFFF && t.cpu.flags.toByte == 0x00 && t.cycles == 16) = true := by
  decide

/-- Vector W9 of 95_test_vectors.md, part 2: the bytes `F8 02`. -/
theorem test_W9 : ends
    (startIn { zeroCpu with sp := 0xFFF8, pc := 0x0100 } [(0x0100, 0xF8), (0x0101, 0x02)] [])
    (fun t => t.hl == 0xFFFA && t.cpu.sp == 0xFFF8 && t.cpu.flags.toByte == 0x00 && t.cycles == 12) = true := by
  decide

/-- Vector S1 of 95_test_vectors.md, part 2: the bytes `07`. -/
theorem test_S1 : ends
    (startIn { zeroCpu with a := 0x85, pc := 0x0100 } [(0x0100, 0x07)] [])
    (fun t => t.cpu.a == 0x0B && t.cpu.flags.toByte == 0x10 && t.cycles == 4) = true := by
  decide

/-- Vector S2 of 95_test_vectors.md, part 2: the bytes `07`. -/
theorem test_S2 : ends
    (startIn { zeroCpu with a := 0x00, pc := 0x0100 } [(0x0100, 0x07)] [])
    (fun t => t.cpu.a == 0x00 && t.cpu.flags.toByte == 0x00 && t.cycles == 4) = true := by
  decide

/-- Vector S5 of 95_test_vectors.md, part 2: the bytes `1F`. -/
theorem test_S5 : ends
    (startIn { zeroCpu with a := 0x01, flags := Flags.ofByte 0x10, pc := 0x0100 } [(0x0100, 0x1F)] [])
    (fun t => t.cpu.a == 0x80 && t.cpu.flags.toByte == 0x10 && t.cycles == 4) = true := by
  decide

/-- Vector S7 of 95_test_vectors.md, part 2: the bytes `CB 09`. -/
theorem test_S7 : ends
    (startIn { zeroCpu with c := 0x01, pc := 0x0100 } [(0x0100, 0xCB), (0x0101, 0x09)] [])
    (fun t => t.cpu.c == 0x80 && t.cpu.flags.toByte == 0x10 && t.cycles == 8) = true := by
  decide

/-- Vector S8 of 95_test_vectors.md, part 2: the bytes `CB 12`. -/
theorem test_S8 : ends
    (startIn { zeroCpu with d := 0x80, flags := Flags.ofByte 0x00, pc := 0x0100 }
      [(0x0100, 0xCB), (0x0101, 0x12)] [])
    (fun t => t.cpu.d == 0x00 && t.cpu.flags.toByte == 0x90 && t.cycles == 8) = true := by
  decide

/-- Vector S11 of 95_test_vectors.md, part 2: the bytes `CB 2D`. -/
theorem test_S11 : ends
    (startIn { zeroCpu with l := 0x81, pc := 0x0100 } [(0x0100, 0xCB), (0x0101, 0x2D)] [])
    (fun t => t.cpu.l == 0xC0 && t.cpu.flags.toByte == 0x10 && t.cycles == 8) = true := by
  decide

/-- Vector S12 of 95_test_vectors.md, part 2: the bytes `CB 37`. -/
theorem test_S12 : ends
    (startIn { zeroCpu with a := 0xF0, flags := Flags.ofByte 0x10, pc := 0x0100 }
      [(0x0100, 0xCB), (0x0101, 0x37)] [])
    (fun t => t.cpu.a == 0x0F && t.cpu.flags.toByte == 0x00 && t.cycles == 8) = true := by
  decide

/-- Vector S14 of 95_test_vectors.md, part 2: the bytes `CB 16`. -/
theorem test_S14 : ends
    (startIn { zeroCpu with h := 0xC0, l := 0x00, flags := Flags.ofByte 0x00, pc := 0x0100 }
      [(0x0100, 0xCB), (0x0101, 0x16)] [(0xC000, 0x81)])
    (fun t => busRead 0 t 0xC000 == 0x02 && t.cpu.flags.toByte == 0x10 && t.cycles == 16) = true := by
  decide

/-- Vector S15 of 95_test_vectors.md, part 2: the bytes `CB 7F`. -/
theorem test_S15 : ends
    (startIn { zeroCpu with a := 0x80, flags := Flags.ofByte 0x10, pc := 0x0100 }
      [(0x0100, 0xCB), (0x0101, 0x7F)] [])
    (fun t => t.cpu.flags.toByte == 0x30 && t.cycles == 8) = true := by
  decide

/-- Vector S16 of 95_test_vectors.md, part 2: the bytes `CB 46`. -/
theorem test_S16 : ends
    (startIn { zeroCpu with h := 0xC0, l := 0x00, flags := Flags.ofByte 0x00, pc := 0x0100 }
      [(0x0100, 0xCB), (0x0101, 0x46)] [(0xC000, 0xFE)])
    (fun t => t.cpu.flags.toByte == 0xA0 && t.cycles == 12) = true := by
  decide

/-- Vector S17 of 95_test_vectors.md, part 2: the bytes `CB 80`. -/
theorem test_S17 : ends
    (startIn { zeroCpu with b := 0xFF, pc := 0x0100 } [(0x0100, 0xCB), (0x0101, 0x80)] [])
    (fun t => t.cpu.b == 0xFE && t.cycles == 8) = true := by
  decide

/-- Vector S18 of 95_test_vectors.md, part 2: the bytes `CB FE`. -/
theorem test_S18 : ends
    (startIn { zeroCpu with h := 0xC0, l := 0x00, pc := 0x0100 } [(0x0100, 0xCB), (0x0101, 0xFE)] [(0xC000, 0x00)])
    (fun t => busRead 0 t 0xC000 == 0x80 && t.cycles == 16) = true := by
  decide

/-- Vector S27 of 95_test_vectors.md, part 2: the bytes `CB DB`. -/
theorem test_S27 : ends
    (startIn { zeroCpu with e := 0x00, pc := 0x0100 } [(0x0100, 0xCB), (0x0101, 0xDB)] [])
    (fun t => t.cpu.e == 0x08 && t.cycles == 8) = true := by
  decide

/-- Vector J1 of 95_test_vectors.md, part 2: the bytes `C3 50 01`. -/
theorem test_J1 : ends
    (startIn { zeroCpu with pc := 0x0100 } [(0x0100, 0xC3), (0x0101, 0x50), (0x0102, 0x01)] [])
    (fun t => t.cpu.pc == 0x0150 && t.cycles == 16) = true := by
  decide

/-- Vector J2 of 95_test_vectors.md, part 2: the bytes `C2 00 30`. -/
theorem test_J2 : ends
    (startIn { zeroCpu with flags := Flags.ofByte 0x80, pc := 0x0200 } [(0x0200, 0xC2), (0x0202, 0x30)] [])
    (fun t => t.cpu.pc == 0x0203 && t.cycles == 12) = true := by
  decide

/-- Vector J3 of 95_test_vectors.md, part 2: the bytes `C2 00 30`. -/
theorem test_J3 : ends
    (startIn { zeroCpu with flags := Flags.ofByte 0x00, pc := 0x0200 } [(0x0200, 0xC2), (0x0202, 0x30)] [])
    (fun t => t.cpu.pc == 0x3000 && t.cycles == 16) = true := by
  decide

/-- Vector J4 of 95_test_vectors.md, part 2: the bytes `E9`. -/
theorem test_J4 : ends
    (startIn { zeroCpu with h := 0x40, l := 0x00, pc := 0x0100 } [(0x0100, 0xE9)] [])
    (fun t => t.cpu.pc == 0x4000 && t.cycles == 4) = true := by
  decide

/-- Vector J5 of 95_test_vectors.md, part 2: the bytes `18 FE`. -/
theorem test_J5 : ends
    (startIn { zeroCpu with pc := 0x0200 } [(0x0200, 0x18), (0x0201, 0xFE)] [])
    (fun t => t.cpu.pc == 0x0200 && t.cycles == 12) = true := by
  decide

/-- Vector J7 of 95_test_vectors.md, part 2: the bytes `38 80`. -/
theorem test_J7 : ends
    (startIn { zeroCpu with flags := Flags.ofByte 0x10, pc := 0x0200 } [(0x0200, 0x38), (0x0201, 0x80)] [])
    (fun t => t.cpu.pc == 0x0182 && t.cycles == 12) = true := by
  decide

/-- Vector J8 of 95_test_vectors.md, part 2: the bytes `38 80`. -/
theorem test_J8 : ends
    (startIn { zeroCpu with flags := Flags.ofByte 0x00, pc := 0x0200 } [(0x0200, 0x38), (0x0201, 0x80)] [])
    (fun t => t.cpu.pc == 0x0202 && t.cycles == 8) = true := by
  decide

/-- Vector J9 of 95_test_vectors.md, part 2: the bytes `CD 00 20`. -/
theorem test_J9 : ends
    (startIn { zeroCpu with sp := 0xFFFE, pc := 0x0150 } [(0x0150, 0xCD), (0x0152, 0x20)] [])
    (fun t => t.cpu.pc == 0x2000 && t.cpu.sp == 0xFFFC && busRead 0 t 0xFFFD == 0x01 && busRead 0 t 0xFFFC == 0x53 &&
      t.cycles == 24) = true := by
  decide

/-- Vector J10 of 95_test_vectors.md, part 2: the bytes `D4 00 20`. -/
theorem test_J10 : ends
    (startIn { zeroCpu with sp := 0xFFFE, flags := Flags.ofByte 0x10, pc := 0x0150 }
      [(0x0150, 0xD4), (0x0152, 0x20)] [])
    (fun t => t.cpu.pc == 0x0153 && t.cpu.sp == 0xFFFE && t.cycles == 12) = true := by
  decide

/-- Vector J12 of 95_test_vectors.md, part 2: the bytes `C0`. -/
theorem test_J12 : ends
    (startIn { zeroCpu with sp := 0xFFFC, flags := Flags.ofByte 0x80, pc := 0x2000 }
      [(0x2000, 0xC0)] [(0xFFFC, 0x53), (0xFFFD, 0x01)])
    (fun t => t.cpu.pc == 0x2001 && t.cpu.sp == 0xFFFC && t.cycles == 8) = true := by
  decide

/-- Vector J13 of 95_test_vectors.md, part 2: the bytes `C8`. -/
theorem test_J13 : ends
    (startIn { zeroCpu with sp := 0xFFFC, flags := Flags.ofByte 0x80, pc := 0x2000 }
      [(0x2000, 0xC8)] [(0xFFFC, 0x53), (0xFFFD, 0x01)])
    (fun t => t.cpu.pc == 0x0153 && t.cpu.sp == 0xFFFE && t.cycles == 20) = true := by
  decide

/-- Vector J14 of 95_test_vectors.md, part 2: the bytes `D9`. -/
theorem test_J14 : ends
    (startIn { zeroCpu with sp := 0xFFFC, pc := 0x0048 } [(0x0048, 0xD9)] [(0xFFFC, 0x00), (0xFFFD, 0x02)])
    (fun t => t.cpu.pc == 0x0200 && t.cpu.sp == 0xFFFE && t.cpu.ime == true && t.cycles == 16) = true := by
  decide

/-- Vector J15 of 95_test_vectors.md, part 2: the bytes `FF`. -/
theorem test_J15 : ends
    (startIn { zeroCpu with sp := 0xFFFE, pc := 0x0200 } [(0x0200, 0xFF)] [])
    (fun t => t.cpu.pc == 0x0038 && t.cpu.sp == 0xFFFC && busRead 0 t 0xFFFD == 0x02 && busRead 0 t 0xFFFC == 0x01 &&
      t.cycles == 16) = true := by
  decide

/-- Vector Y1 of 95_test_vectors.md, part 2: the bytes `00`. -/
theorem test_Y1 : ends
    (startIn { zeroCpu with pc := 0x0100 } [] [])
    (fun t => t.cpu.pc == 0x0101 && t.cycles == 4) = true := by
  decide

/-- Vector Y4 of 95_test_vectors.md, part 2: the bytes `76`. -/
theorem test_Y4 : ends
    (startIn { zeroCpu with ime := true, sp := 0xFFFE, pc := 0x0200 } [(0x0200, 0x76)] [] (irq := ⟨0x04, 0x04⟩))
    (fun t => t.cpu.pc == 0x0050 && t.cpu.run == .running && t.cpu.sp == 0xFFFC && busRead 0 t 0xFFFD == 0x02 &&
      busRead 0 t 0xFFFC == 0x00 && t.irq.request == 0x00 && t.cpu.ime == false && t.cycles == 20) = true := by
  decide

/-- Vector Y6 of 95_test_vectors.md, part 2: the bytes `F3`. -/
theorem test_Y6 : ends
    (startIn { zeroCpu with ime := true, pc := 0x0100 } [(0x0100, 0xF3)] [])
    (fun t => t.cpu.ime == false && t.cycles == 4) = true := by
  decide

/-- Vector Y9 of 95_test_vectors.md, part 2: the bytes `CB 37`. -/
theorem test_Y9 : ends
    (startIn { zeroCpu with a := 0x80, pc := 0x0100 } [(0x0100, 0xCB), (0x0101, 0x37)] [])
    (fun t => t.cpu.a == 0x08 && t.cpu.pc == 0x0102 && t.cycles == 8) = true := by
  decide

/-- Vector I1 of 95_test_vectors.md, part 2: the bytes `00`. -/
theorem test_I1 : ends
    (startIn { zeroCpu with ime := true, sp := 0xFFFE, pc := 0x0200 } [] [] (irq := ⟨0x05, 0x05⟩))
    (fun t => t.cpu.pc == 0x0040 && t.irq.request == 0x04 && t.cpu.ime == false && t.cpu.sp == 0xFFFC && busRead 0 t
      0xFFFD == 0x02 && busRead 0 t 0xFFFC == 0x00 && t.cycles == 20) = true := by
  decide

/-- Vector I2 of 95_test_vectors.md, part 2: the bytes `00`. -/
theorem test_I2 : ends
    (startIn { zeroCpu with ime := true, sp := 0xFFFE, pc := 0x0200 } [] [] (irq := ⟨0x1F, 0x18⟩))
    (fun t => t.cpu.pc == 0x0058 && t.irq.request == 0x10 && t.cycles == 20) = true := by
  decide

/-- Vector I5 of 95_test_vectors.md, part 2: the bytes `00`. -/
theorem test_I5 : ends
    (startIn { zeroCpu with ime := true, sp := 0x0000, pc := 0x0200 } [] [] (irq := ⟨0x01, 0x01⟩))
    (fun t => t.cpu.pc == 0x0040 && t.cpu.sp == 0xFFFE && t.irq.enable == 0x02 && t.irq.request == 0x00 && t.cycles ==
      20) = true := by
  decide

/-- Vector Y10: the byte `D3` at 0x0150 is the fault, with the byte and its address. -/
theorem test_Y10 : step (startIn { zeroCpu with pc := 0x0150 } [(0x0150, 0xD3)] []) =
    .fault (.invalidOpcode 0xD3 0x0150) := rfl

/-- Vector T5: TAC = 05, TIMA = FF, TMA = AB; 16 cycles reload TIMA and request the timer interrupt. -/
theorem test_T5 :
    let timer : Timer := { div := 0, tima := 0xFF, tma := 0xAB, tac := 5, divAcc := 0, timaAcc := 0 }
    let t := timerAdvance 16 { blank with timer := timer }
    (t.timer.tima == 0xAB && t.irq.request == 0x04 && t.timer.divAcc == 16 && t.timer.timaAcc == 0) = true := by
  decide

/-- Vector P3, its last cycle: the pixel transfer starts at dot 80. -/
theorem test_P3 :
    let t := ppuAdvance 1 { blank with ppu := { blank.ppu with dot := 79 } }
    (t.ppu.dot == 80 && t.ppu.mode == .transfer && t.irq.request == 0) = true := by
  decide

/-- Vector M5's read: bank 0x21 of an image of 8 banks reads 0xFF. -/
theorem test_M5 : busRead 0 (busWrite banked 0x4000 0x01) 0x4000 = 0xFF := by decide

/-- Vector M10: storing `bank_mode` = 1 counts one warning. -/
theorem test_M10 :
    ((busWrite banked 0x6000 0x01).mbc.bankMode && (busWrite banked 0x6000 0x01).warnings == 1) = true := by
  decide

/-- A byte of an image that is one byte repeated. -/
theorem imageByte_replicate (n o : Nat) (v : Byte) (h : o < n) : imageByte (List.replicate n v) o = v := by
  simp [imageByte, List.getD, h]

/-- Vector E8: a 32768-byte image with the type byte 0x01 and the size code 0x01 (here every byte is) gives `InvalidROM`. -/
theorem test_E8 (n : Nat) (h : n = 0x8000) : (loadCart (List.replicate n 0x01)).toOption = none := by
  have h1 := imageByte_replicate n 0x0147 0x01 (by omega)
  have h2 := imageByte_replicate n 0x0148 0x01 (by omega)
  have h3 : (List.replicate n (0x01 : Byte)).length < declaredSize (List.replicate n 0x01) := by
    rw [declaredSize, h2, List.length_replicate]
    have : 2 ^ (0x01 : Byte).toNat = 2 := rfl
    omega
  have h4 : headerKind (List.replicate n 0x01) = some .mbc1 := by
    unfold headerKind
    rw [h1]
    rfl
  unfold loadCart
  rw [h4]
  simp only [if_pos h3]
  rfl

/-- A word of opcode_table.json is placed where the next step fetches: `CALL a16` of zeros costs 24 cycles. -/
theorem test_withFetchWord : ends (State.reset.withFetchWord 8 0xCD) (fun t => t.cpu.pc == 0 && t.cycles == 24) = true := by
  decide

/-- The two-byte words of opcode_table.json: `SWAP A` is written 0xCB37. -/
theorem test_decodeTableWord : decodeTableWord 16 0xCB37 = some .swap_A := rfl

/-! ### Witnesses: concrete states that meet the hypotheses of the obligations -/

/-- DecodeEncodeRoundTrip: well-formed instructions that are not the lone escape byte. -/
theorem witness_DecodeEncodeRoundTrip : WellFormed .nop ∧ Instr.nop ≠ .prefixCb ∧ WellFormed (.invalid 0xD3)
    ∧ WellFormed (.ld_ata16_SP 0xFFFF) := by decide

/-- EncodeReproducesBytes: bytes that are not STOP. -/
theorem witness_EncodeReproducesBytes : decodeWindow 0x01 0x34 0x12 ≠ .stop ∧ decodeWindow 0xFF 0 0 ≠ .stop := by decide

/-- StepRunsDecodedInstruction: a state that fetches, at the bytes of an instruction. -/
theorem witness_StepRunsDecodedInstruction :
    (startIn { zeroCpu with pc := 0x0100 } [(0x0100, 0x3E), (0x0101, 0x9C)] []).fetches = true
    ∧ decode (startIn { zeroCpu with pc := 0x0100 } [(0x0100, 0x3E), (0x0101, 0x9C)] []).atFetch.window
      = .ok (.ld_A_d8 0x9C) := ⟨rfl, rfl⟩

/-- InterruptDispatchEffect: a state that dispatches; a stack in plain storage at its highest place, and at VRAM's lowest. -/
theorem witness_InterruptDispatchEffect :
    interruptTaken { blank with cpu := { blank.cpu with ime := true }, irq := ⟨0x1F, 0x10⟩ } = some .joypad 
    ∧ plainStorage (0xFFFF - 1) = true ∧ plainStorage (0xFFFF - 2) = true
    ∧ plainStorage (0x8002 - 1) = true ∧ plainStorage (0x8002 - 2) = true := by decide

/-- StepTakesHighestPriorityInterrupt, first clause: the highest priority, and the lowest with nothing above it. -/
theorem witness_StepTakesHighestPriorityInterrupt :
    (∀ j, j < IrqSource.vblank.bit → (BitVec.getLsbD (0x1F : BitVec 5) j = false))
    ∧ (0x1F : BitVec 5).getLsbD IrqSource.vblank.bit = true
    ∧ (let s : State := { blank with cpu := { blank.cpu with ime := true }, irq := ⟨0x1F, 0x10⟩ }
       s.goesOn = true ∧ s.atFetch.cpu.ime = true
        ∧ (s.atFetch.irq.enable &&& s.atFetch.irq.request).getLsbD IrqSource.joypad.bit = true
        ∧ ∀ j, j < IrqSource.joypad.bit → (s.atFetch.irq.enable &&& s.atFetch.irq.request).getLsbD j = false) := by
  decide

/-- StepTakesHighestPriorityInterrupt, second clause: IME clear, and IME set with nothing enabled. -/
theorem witness_StepTakesNoInterrupt : blank.goesOn = true ∧ blank.atFetch.cpu.ime = false
    ∧ (let s : State := { blank with cpu := { blank.cpu with ime := true }, irq := ⟨0x02, 0x04⟩ }
       s.goesOn = true ∧ s.atFetch.irq.enable &&& s.atFetch.irq.request = 0) := by
  decide

/-- WakeAndWait: a state for each clause: the four of the wake, a halted CPU woken with the lowest source pending and with
the highest, both values of IME, and one that waits. -/
theorem witness_WakeAndWait : blank.cpu.run = .running
    ∧ (blank.setRun .halted).cpu.run = .halted
    ∧ ((blank.setRun .stopped).cpu.run = .stopped ∧ (blank.setRun .stopped).config.stopMode = .immediateWake)
    ∧ (let s : State := { blank.setRun .halted with irq := ⟨0x1F, 0x10⟩ }
       s.goesOn = true ∧ (hostTurn s).irq.enable &&& (hostTurn s).irq.request ≠ 0 ∧ s.atFetch.cpu.run = .running
        ∧ s.cpu.ime = false)
    ∧ (let s : State := { blank with cpu := { blank.cpu with run := .halted, ime := true }, irq := ⟨0x11, 0x1F⟩ }
       s.goesOn = true ∧ s.atFetch.cpu.run = .running ∧ s.cpu.ime = true
        ∧ ((hostTurn s).irq.enable &&& (hostTurn s).irq.request).getLsbD IrqSource.vblank.bit = true
        ∧ ∀ j, j < IrqSource.vblank.bit → ((hostTurn s).irq.enable &&& (hostTurn s).irq.request).getLsbD j = false)
    ∧ (let s : State := { blank.setRun .stopped with config := { Config.default with stopMode := .asHalt } }
       s.cpu.run = .stopped ∧ s.config.stopMode = .asHalt ∧ s.goesOn = true ∧ interruptTaken s.atFetch = none
        ∧ s.atFetch.cpu.run ≠ .running) := by
  decide

/-- HaltWithoutEnabledSourceNeverEnds: halted, with every source requested and none enabled. -/
theorem witness_HaltWithoutEnabledSourceNeverEnds :
    let s : State := { blank.setRun .halted with irq := ⟨0, 0x1F⟩ }
    s.goesOn = true ∧ s.cpu.run = .halted ∧ s.irq.enable = 0 ∧ s.config.lcdOff = .ignored := by
  decide

/-- HaltWithoutEnabledSourceNeverEnds: the same with `LCD_OFF_MODEL` = REFUSE and the LCD on. -/
theorem witness_HaltWithLcdOn :
    let s : State := { blank.setRun .halted with
                       config := { Config.default with lcdOff := .refuse }, ppu := { blank.ppu with lcdc := 0x80 } }
    s.goesOn = true ∧ s.cpu.run = .halted ∧ s.irq.enable = 0 ∧ s.ppu.lcdc.getLsbD 7 = true := by
  decide

/-- EiTakesEffectOneInstructionLater: EI first, and then another instruction, or DI, after it. -/
theorem witness_EiTakesEffectOneInstructionLater :
    (let s := startIn { zeroCpu with pc := 0x0100 } [(0x0100, 0xFB)] []
     nextWith (runInstr s) (fun _ => true) = true ∧ fetched s = .ei ∧ s.config.eiDelay = .one
      ∧ s.cpu.eiPending = false)
    ∧ (let s := startIn { zeroCpu with pc := 0x0100, eiPending := true } [(0x0100, 0x76)] []
       nextWith (runInstr s) (fun _ => true) = true ∧ s.cpu.eiPending = true ∧ fetched s ≠ .di ∧ fetched s ≠ .reti)
    ∧ (let s := startIn { zeroCpu with pc := 0x0100, eiPending := true } [(0x0100, 0xF3)] []
       nextWith (runInstr s) (fun _ => true) = true ∧ s.cpu.eiPending = true ∧ fetched s = .di) := by
  decide

/-- InvalidOpcodeEndsTheRun: a fetch of the lowest and of the highest invalid byte, and a recorded fault. -/
theorem witness_InvalidOpcodeEndsTheRun :
    (let s := startIn { zeroCpu with pc := 0x0150 } [(0x0150, 0xD3)] []
     s.fetches = true ∧ s.atFetch.readByte 0 s.atFetch.cpu.pc = 0xD3)
    ∧ (let s := startIn { zeroCpu with pc := 0x7FFF } [(0x7FFF, 0xFD)] []
       s.fetches = true ∧ s.atFetch.readByte 0 s.atFetch.cpu.pc = 0xFD)
    ∧ (blank.withFault 0xD3 0x0102).cpu.fault = some { byte := 0xD3, addr := 0x0102 } :=
  ⟨⟨rfl, rfl⟩, ⟨rfl, rfl⟩, rfl⟩

/-- OnlyInvalidBytesFault: a state without a recorded fault whose step faults. -/
theorem witness_OnlyInvalidBytesFault :
    (startIn { zeroCpu with pc := 0x0150 } [(0x0150, 0xFD)] []).cpu.fault = none
    ∧ step (startIn { zeroCpu with pc := 0x0150 } [(0x0150, 0xFD)] []) = .fault (.invalidOpcode 0xFD 0x0150) :=
  ⟨rfl, rfl⟩

/-- StepCyclesInRange and StepKeepsConfiguration: a step that goes on, from a state without an overlay. -/
theorem witness_step_goes_on : ends blank (fun _ => true) = true ∧ blank.bootMapped = false := by decide

/-- StepKeepsInvariant: a state that meets the invariant and whose step goes on. -/
theorem witness_StepKeepsInvariant : blank.Inv ∧ ends blank (fun _ => true) = true :=
  ⟨⟨rfl, rfl, rfl, rfl, rfl, rfl, rfl, rfl⟩, by decide⟩

/-- DmaAndLcdRefusals: a step that writes 0xFF46, and a step that does not, for both values of the LCD parameter. -/
theorem witness_DmaAndLcdRefusals :
    (let s := startIn { zeroCpu with pc := 0x0100 } [(0x0100, 0xE0), (0x0101, 0x46)] []
     s.goesOn = true ∧ s.config.dma = .refuse ∧ nextWith (cpuStep (hostTurn s)) (fun t => t.dmaWritten) = true)
    ∧ (let s : State := { blank with config := { Config.default with lcdOff := .refuse } }
       s.goesOn = true ∧ s.config.lcdOff = .refuse
        ∧ nextWith (cpuStep (hostTurn s)) (fun t => !t.dmaWritten && !t.ppu.lcdc.getLsbD 7) = true)
    ∧ blank.goesOn = true ∧ blank.config.lcdOff = .ignored
    ∧ nextWith (cpuStep (hostTurn blank)) (fun t => !t.dmaWritten) = true := by
  decide

/-- PushThenPop and CallThenReturn: a stack in HRAM, and one at the end of VRAM. -/
theorem witness_stack_in_plain_storage : plainStorage (blank.cpu.sp - 1) = true ∧ plainStorage (blank.cpu.sp - 2) = true
    ∧ (let s := startIn { zeroCpu with sp := 0xA000 } [] []
       plainStorage (s.cpu.sp - 1) = true ∧ plainStorage (s.cpu.sp - 2) = true) := by
  decide

/-- MemoryStores and BytesKept: a store to storage, with an address that is kept, and one to the bank controller. -/
theorem witness_BytesKept : plainStorage 0xC000 = true ∧ mirrored 0xC001 ≠ mirrored 0xC000
    ∧ 0x8000 ≤ (0xC000 : Word).toNat ∧ mirrored 0xE000 = mirrored 0xC000
    ∧ (region 0x3FFF ≠ .romWindow ∧ region 0x3FFF ≠ .eram ∧ mirrored 0x3FFF ≠ mirrored 0x2000) := by
  decide

/-- DaaCorrectsBcdArithmetic: the largest and the smallest numbers. -/
theorem witness_DaaCorrectsBcdArithmetic :
    (99 < 100 ∧ { zeroCpu with a := 0x99 }.a = BitVec.ofNat 8 (99 / 10 * 16 + 99 % 10))
    ∧ (0 < 100 ∧ zeroCpu.a = BitVec.ofNat 8 (0 / 10 * 16 + 0 % 10)) := by
  decide

/-- Jumps, CallsAndRestarts and Returns: a condition that holds and one that does not. -/
theorem witness_conditions : blank.cond .nz = true ∧ blank.cond .z = false ∧ blank.cond .nc = true
    ∧ blank.cond .c = false := by
  decide

/-- SystemInstructions: both values of `EI_DELAY`. -/
theorem witness_SystemInstructions : blank.config.eiDelay = .one
    ∧ ({ blank with config := { Config.default with eiDelay := .zero } } : State).config.eiDelay = .zero := by
  decide

/-- PlainStorageReadsBack: the ends of every range, and both ends of the echo. -/
theorem witness_PlainStorageReadsBack :
    (([0x8000, 0x9FFF, 0xC000, 0xDFFF, 0xE000, 0xFDFF, 0xFE00, 0xFE9F, 0xFF80, 0xFFFE] : List Word).all plainStorage
      = true)
    ∧ (([0x7FFF, 0xA000, 0xBFFF, 0xFEA0, 0xFEFF, 0xFF00, 0xFF7F, 0xFFFF] : List Word).any plainStorage = false)
    ∧ 0xE000 ≤ (0xE000 : Word).toNat ∧ (0xFDFF : Word).toNat ≤ 0xFDFF := by
  decide

/-- BankCommands: the ends of the four windows, on both kinds of cartridge; the two values that the bank select sets to 1. -/
theorem witness_BankCommands : blank.cart.kind = .romOnly ∧ banked.cart.kind = .mbc1
    ∧ (busWrite banked 0x1FFF 0x0B).mbc.ramEnable = false ∧ (busWrite banked 0x0000 0x1A).mbc.ramEnable = true
    ∧ (busWrite banked 0x2000 0x20).mbc.romLo5 = 1 ∧ (busWrite banked 0x3FFF 0x1F).mbc.romLo5 = 0x1F
    ∧ (busWrite banked 0x4000 0x03).mbc.bank2 = 3 ∧ (busWrite banked 0x5FFF 0x07).mbc.bank2 = 3
    ∧ (busWrite banked 0x6000 0x01).warnings = 1 ∧ (busWrite banked 0x7FFF 0x02).warnings = 0 := by
  decide

/-- RomReads: both kinds of cartridge, the ends of both windows, an offset past the image, and the smallest and largest n. -/
theorem witness_RomReads : (blank.bootMapped = false ∧ blank.cart.kind = .romOnly ∧ blank.cart.size ≤ 0x8000)
    ∧ (banked.bootMapped = false ∧ banked.cart.kind = .mbc1 ∧ banked.mbc.bank2 = 0 ∧ banked.cart.size ≤ 0x20000)
    ∧ (0x3FFF : Word).toNat ≤ 0x3FFF ∧ 0x4000 ≤ (0x4000 : Word).toNat ∧ (0x7FFF : Word).toNat ≤ 0x7FFF
    ∧ (0x1F : Byte).toNat < 32 ∧ (0x00 : Byte).toNat < 32 := by
  decide

/-- ExternalRam: the three cases in which it does not answer, and the last byte that it holds. -/
theorem witness_ExternalRam : blank.cart.kind = .romOnly
    ∧ ({ banked with mbc := Mbc.reset } : State).mbc.ramEnable = false
    ∧ ({ banked with cart := { banked.cart with eramSize := 0x800 } } : State).cart.eramSize
        ≤ (0xA800 : Word).toNat - 0xA000
    ∧ (banked.cart.kind = .mbc1 ∧ banked.mbc.ramEnable = true ∧ (0xBFFF : Word).toNat - 0xA000 < banked.cart.eramSize) := by
  decide

/-- JoypadUnassignedAndUnmapped: the ends of every range of unassigned addresses, both values of `IO_UNASSIGNED`, and the
three forms of the host's schedule. -/
theorem witness_JoypadUnassignedAndUnmapped :
    (([0xFF01, 0xFF03, 0xFF08, 0xFF0E, 0xFF10, 0xFF3F, 0xFF4C, 0xFF7F] : List Word).all
      (fun a => ioReg a == .unassigned) = true)
    ∧ (([0xFF00, 0xFF04, 0xFF07, 0xFF0F, 0xFF40, 0xFF4B] : List Word).any (fun a => ioReg a == .unassigned) = false)
    ∧ blank.config.ioUnassigned = .store
    ∧ ({ blank with config := { Config.default with ioUnassigned := .openFF } } : State).config.ioUnassigned = .openFF
    ∧ region 0xFEA0 = .unmapped ∧ region 0xFEFF = .unmapped
    ∧ ({ blank with joypadEvents := [true] } : State).joypadEvents = [true]
    ∧ ({ blank with joypadEvents := [false, true] } : State).joypadEvents = [false, true]
    ∧ blank.joypadEvents = [] := by
  decide

/-- BootOverlay: a state with the overlay mapped, PC where it unmaps and elsewhere, and a state without it. -/
theorem witness_BootOverlay :
    (let s : State := { blank with bootMapped := true, boot := some (Vector.replicate 256 0x55) }
     s.bootMapped = true ∧ s.boot = some (Vector.replicate 256 0x55) ∧ s.cpu.pc = 0x0100)
    ∧ blank.bootMapped = false ∧ (0xFF : Word).toNat < 256 ∧ 256 ≤ (0x0100 : Word).toNat
    ∧ (blank.setPc 0x00FF).cpu.pc ≠ 0x0100 := by
  refine ⟨⟨rfl, rfl, rfl⟩, ?_⟩
  decide

/-- TimerAdvanceRules: TAC[2] clear; set with the period not filled; filled with TIMA below 0xFF and at 0xFF; and an
accumulator far past a period that became shorter, with and without an overflow. -/
theorem witness_TimerAdvanceRules :
    let timer := fun (tac : BitVec 3) (tima : Byte) (acc : Nat) =>
      ({ blank with timer := { div := 0, tima := tima, tma := 0xAB, tac := tac, divAcc := 0, timaAcc := acc } } : State)
    (timer 1 0 0).timer.tac.getLsbD 2 = false
    ∧ ((timer 5 0 0).timer.tac.getLsbD 2 = true ∧ (timer 5 0 0).timer.timaAcc + 15 < (timer 5 0 0).timer.period)
    ∧ ((timer 5 0xFE 4).timer.timaAcc + 12 = (timer 5 0xFE 4).timer.period ∧ (timer 5 0xFE 4).timer.tima ≠ 0xFF)
    ∧ ((timer 4 0xFF 0).timer.timaAcc + 1024 = (timer 4 0xFF 0).timer.period ∧ (timer 4 0xFF 0).timer.tima = 0xFF)
    ∧ ((timer 5 0x00 1023).timer.tac.getLsbD 2 = true ∧ (timer 5 0x00 1023).timer.period ≤ (timer 5 0x00 1023).timer.timaAcc
        ∧ 0x00 + ((timer 5 0x00 1023).timer.timaAcc + 4) / (timer 5 0x00 1023).timer.period ≤ 255)
    ∧ 255 < 0xC0 + ((timer 5 0xC0 1023).timer.timaAcc + 1) / (timer 5 0xC0 1023).timer.period := by
  decide

/-- TimerOverflowsAfter256Periods: an enabled counter at zero, with the longest period and the shortest. -/
theorem witness_TimerOverflowsAfter256Periods :
    (let s : State := { blank with timer := { div := 0, tima := 0, tma := 0xAB, tac := 4, divAcc := 0, timaAcc := 0 } }
     s.timer.tac.getLsbD 2 = true ∧ s.timer.tima = 0 ∧ s.timer.timaAcc = 0 ∧ s.timer.period = 1024)
    ∧ (let s : State := { blank with timer := { div := 0, tima := 0, tma := 0xAB, tac := 5, divAcc := 0, timaAcc := 0 } }
       s.timer.tac.getLsbD 2 = true ∧ s.timer.tima = 0 ∧ s.timer.timaAcc = 0 ∧ s.timer.period = 16) := by
  decide

/-- FrameIs70224Cycles and PpuRequests: the first and the last position of a frame. -/
theorem witness_positions : blank.ppu.positionOk = true
    ∧ ({ blank.ppu with ly := 153, dot := 455, mode3Len := 289 } : Ppu).positionOk = true := by
  decide

/-- ControlStateWriters: instructions that complete, and that are none of those a clause names. -/
theorem witness_ControlStateWriters : nextWith (exec .ld_C_B blank) (fun _ => true) = true ∧ Instr.ld_C_B ≠ .di
    ∧ Instr.ld_C_B ≠ .ei ∧ Instr.ld_C_B ≠ .reti ∧ Instr.ld_C_B ≠ .halt ∧ Instr.ld_C_B ≠ .stop
    ∧ (∀ v, Instr.ld_C_B ≠ .ld_SP_d16 v) ∧ (∀ a, Instr.ld_C_B ≠ .jp_a16 a) ∧ Instr.ld_C_B ≠ .jp_HL :=
  ⟨rfl, by decide, by decide, by decide, by decide, by decide, nofun, nofun, by decide⟩

/-- LoadAndResetValues: the last byte of each size of external RAM is RAM, the next is not, and the IO cells are not. -/
theorem witness_ramKeys : ([2048, 8192, 32768] : List Nat).all (fun n =>
      Memory.isRamKey n (0xFFFF + n) && !Memory.isRamKey n (0x10000 + n)) = true
    ∧ Memory.isRamKey 0 0x10000 = false ∧ Memory.isRamKey 0 0x8000 = true ∧ Memory.isRamKey 0 0xFFFE = true
    ∧ Memory.isRamKey 32768 0xFF00 = false ∧ Memory.isRamKey 32768 0xFF7F = false := by
  decide

/-- LoadAndResetValues and ResetMeetsInvariant: an image that loads (32768 zero bytes), an image with no header, and one that is too short (32768
times the byte 0x01, which declares 65536 bytes). -/
theorem witness_LoadAndResetValues (n : Nat) (hn : n = 0x8000) :
    (headerKind (List.replicate n 0x00) = some .romOnly
      ∧ declaredSize (List.replicate n 0x00) ≤ (List.replicate n (0x00 : Byte)).length)
    ∧ headerKind [] = none ∧ ([] : List Byte).length < 0x0150
    ∧ (List.replicate n (0x01 : Byte)).length < declaredSize (List.replicate n 0x01) := by
  refine ⟨⟨?_, ?_⟩, rfl, by simp, ?_⟩
  · unfold headerKind
    rw [imageByte_replicate n 0x0147 0x00 (by omega)]
    rfl
  · rw [declaredSize, imageByte_replicate n 0x0148 0x00 (by omega), List.length_replicate]
    have : 2 ^ (0x00 : Byte).toNat = 1 := rfl
    omega
  · rw [declaredSize, imageByte_replicate n 0x0148 0x01 (by omega), List.length_replicate]
    have : 2 ^ (0x01 : Byte).toNat = 2 := rfl
    omega

end Sys2Proof.Tests
end

section
/-! Proofs, family 10_state.md: a step keeps the invariant and the configuration, and every reset meets the invariant. -/

namespace Sys2Proof.Proofs

open Sys2Proof.Machine Sys2Proof.Laws

/-! ### The invariant through a step -/

/-- The parts of the invariant that speak of storage and the device registers: all but the control state and
`dmaWritten`. -/
structure DevicesOk (s : State) : Prop where
  mem : s.memOk = true
  cart : s.cart.wf = true
  bank : s.bankOk = true
  ppu : s.ppu.positionOk = true
  timer : s.timer.divOk = true
  boot : s.bootOk = true

theorem devicesOk_of_inv (s : State) (h : s.Inv) : DevicesOk s :=
  ⟨h.mem, h.cart, h.bank, h.ppu, h.timer, h.boot⟩

theorem busWrite_divOk (s : State) (a : Word) (v : Byte) (h : s.timer.divOk = true) :
    (busWrite s a v).timer.divOk = true := by
  obtain ⟨-, -, -, hdiv⟩ := busWrite_position s a v
  simp only [Timer.divOk, decide_eq_true_eq] at h ⊢
  exact hdiv h

theorem busWrite_bootOk (s : State) (a : Word) (v : Byte) : (busWrite s a v).bootOk = s.bootOk := by
  simp [State.bootOk]

theorem busWrite_devicesOk (s : State) (a : Word) (v : Byte) (h : DevicesOk s) : DevicesOk (busWrite s a v) where
  mem := busWrite_memOk s a v h.mem
  cart := by rw [busWrite_cart]; exact h.cart
  bank := busWrite_bankOk s a v h.bank
  ppu := busWrite_positionOk s a v h.ppu
  timer := busWrite_divOk s a v h.timer
  boot := by rw [busWrite_bootOk]; exact h.boot

theorem stored_devicesOk (s : State) (ws : List (Word × Byte)) (h : DevicesOk s) : DevicesOk (stored s ws) :=
  stored_induction busWrite_devicesOk ws s h

/-- Where a step fetches or dispatches, the invariant still holds: the wake sets `run` to Running at most, and the overlay
can only unmap. -/
theorem atFetch_inv (s : State) (h : s.Inv) : s.atFetch.Inv := by
  obtain ⟨j, r, b, run, e, hb, hrun⟩ := atFetch_shape s
  have hei := h.ei
  have hboot := h.boot
  rw [e]
  refine ⟨h.mem, h.cart, h.bank, h.ppu, h.timer, ?_, ?_, h.goesOn⟩
  · rcases hrun with rfl | rfl
    · exact hei
    · simp only [State.eiOk, Bool.or_eq_true, Bool.and_eq_true] at hei ⊢
      exact hei.imp_right fun hei => ⟨rfl, hei.2⟩
  · rcases hb with rfl | rfl
    · exact hboot
    · rfl

/-- The CPU's part of a step keeps the invariant, unless it wrote 0xFF46. -/
theorem cpuCompletes_inv (s t : State) (h : s.Inv) (hc : CpuCompletes s t) (hd : t.dmaWritten = false) : t.Inv := by
  obtain ⟨ws, c, n, ack, -, -, hfault, hei, rfl⟩ := hc
  obtain ⟨hmem, hcart, hbank, hppu, htimer, hboot⟩ := stored_devicesOk s ws (devicesOk_of_inv s h)
  refine ⟨hmem, hcart, hbank, hppu, htimer, ?_, hboot, ?_⟩
  · have hsei := h.ei
    have hconfig : (stored s ws).config = s.config := congrArg (fun p => p.2.2) (stored_fixedPart ws s).1
    simp only [State.eiOk, Bool.or_eq_true, Bool.not_eq_true', Bool.and_eq_true, beq_iff_eq, hconfig] at hsei ⊢
    cases hpend : c.eiPending with
    | false => exact .inl rfl
    | true =>
      rcases hei hpend with running | ⟨hpending, -, hrun⟩
      · exact .inr running
      · rcases hsei with hclear | hset
        · rw [hpending] at hclear
          cases hclear
        · exact absurd hset.1 hrun
  · have hgo := h.goesOn
    simp only [State.goesOn, Bool.and_eq_true] at hgo ⊢
    exact ⟨hfault ▸ hgo.1, by rw [hd]; rfl⟩

/-- The devices' advance keeps the invariant. -/
theorem advanceDevices_inv (s : State) (h : s.Inv) : (advanceDevices s).Inv := by
  obtain ⟨v, acc, r, p, e, hp⟩ := advanceDevices_shape s
  rw [e]
  refine ⟨h.mem, h.cart, h.bank, hp h.ppu, ?_, h.ei, h.boot, h.goesOn⟩
  simp [Timer.divOk, Timer.advanceDiv, Nat.mod_lt]

/-- Settles O14: the invariant goes through the three parts of a step, what stands before the fetch, the CPU's part and the
devices. -/
theorem stepKeepsInvariant : Obligations.StepKeepsInvariant := by
  intro s t hs h
  obtain ⟨-, u, hu, hd, rfl⟩ := step_next s t h
  exact advanceDevices_inv u (cpuCompletes_inv _ u (atFetch_inv s hs) (dispatchOrRun_next _ u hu) hd)

/-! ### The configuration through a step -/

theorem atFetch_configuration (s : State) :
    s.atFetch.fixedPart = s.fixedPart ∧ (s.bootMapped = false → s.atFetch.bootMapped = false) := by
  obtain ⟨j, r, b, run, e, hb, -⟩ := atFetch_shape s
  rw [e]
  exact ⟨rfl, fun h => hb.elim (·.trans h) id⟩

theorem cpuCompletes_configuration (s t : State) (h : CpuCompletes s t) :
    t.fixedPart = s.fixedPart ∧ t.bootMapped = s.bootMapped := by
  obtain ⟨ws, c, n, ack, -, -, -, -, rfl⟩ := h
  exact stored_fixedPart ws s

theorem advanceDevices_configuration (s : State) :
    (advanceDevices s).fixedPart = s.fixedPart ∧ (advanceDevices s).bootMapped = s.bootMapped := by
  obtain ⟨v, acc, r, p, e, -⟩ := advanceDevices_shape s
  rw [e]
  exact ⟨rfl, rfl⟩

/-- Settles O16: neither the parts before the fetch, nor any store, nor the devices write the configuration, and only the
overlay check writes `boot_mapped`. -/
theorem stepKeepsConfiguration : Obligations.StepKeepsConfiguration := by
  intro s t h
  obtain ⟨-, u, hu, -, rfl⟩ := step_next s t h
  obtain ⟨hfixed, hmapped⟩ := atFetch_configuration s
  obtain ⟨ufixed, umapped⟩ := cpuCompletes_configuration _ u (dispatchOrRun_next _ u hu)
  obtain ⟨tfixed, tmapped⟩ := advanceDevices_configuration u
  exact ⟨(tfixed.trans ufixed).trans hfixed, fun hs => (tmapped.trans umapped).trans (hmapped hs)⟩

/-! ### The invariant at reset -/

/-- The reset position of the PPU is in range, whatever draw it takes. -/
theorem postBoot_positionOk (post : PostBoot) : post.ppu.positionOk = true := by
  have draw : (Config.mode3Extra 0 0).val ≤ 117 := Fin.is_le _
  simpa [Ppu.positionOk, PostBoot.ppu, Ppu.reset] using draw

/-- Reset without a boot image meets the invariant, for every cartridge in canonical form. -/
theorem resetNoBoot_inv (config : Config) (post : PostBoot) (ram : Memory) (cart : Cart) (h : cart.wf = true) :
    (resetNoBoot config post ram cart).Inv where
  mem := by
    simp only [State.memOk, Bool.and_eq_true]
    exact ⟨atReset_wf _ ram, atReset_storageKeys _ ram⟩
  cart := h
  bank := rfl
  ppu := postBoot_positionOk post
  timer := rfl
  ei := rfl
  boot := rfl
  goesOn := rfl

/-- Reset with a boot image meets the invariant: only the CPU, three device registers and the overlay differ. -/
theorem resetWithBoot_inv (config : Config) (post : PostBoot) (ram : Memory) (cart : Cart) (boot : Vector Byte 256)
    (h : cart.wf = true) : (resetWithBoot config post ram cart boot).Inv where
  mem := (resetNoBoot_inv config post ram cart h).mem
  cart := h
  bank := rfl
  ppu := postBoot_positionOk post
  timer := rfl
  ei := rfl
  boot := rfl
  goesOn := rfl

/-- Settles O15: `State.reset` is a reset without a boot image, and a load gives one of the two reset forms with a cartridge
in canonical form. -/
theorem resetMeetsInvariant : Obligations.ResetMeetsInvariant := by
  refine ⟨resetNoBoot_inv Config.default PostBoot.default [] Cart.blank reset_cart_wf, ?_⟩
  intro config post ram image boot s h
  unfold load at h
  split at h
  case h_1 => cases h
  case h_2 cart hcart =>
    obtain ⟨-, -, hwf, -⟩ := loadCart_ok image cart hcart
    cases boot <;> cases h
    case none => exact resetNoBoot_inv config post ram cart hwf
    case some b => exact resetWithBoot_inv config post ram cart b hwf

end Sys2Proof.Proofs
end

section
/-! Proofs, family 10_state.md: which instructions write the control state, SP and PC. -/

namespace Sys2Proof.Proofs

open Sys2Proof.Machine Sys2Proof.Laws

/-! ### The instructions that write each part -/

/-- The instructions that write IME or `ei_pending` (10_state.md R17, R18). -/
inductive WritesIme : Instr → Prop
  | di : WritesIme .di
  | ei : WritesIme .ei
  | reti : WritesIme .reti

/-- The instructions that write `run` (R19). -/
inductive WritesRun : Instr → Prop
  | halt : WritesRun .halt
  | stop : WritesRun .stop

/-- The instructions that write SP (R12). -/
inductive WritesSp : Instr → Prop
  | ld_SP_d16 (v : Word) : WritesSp (.ld_SP_d16 v)
  | ld_SP_HL : WritesSp .ld_SP_HL
  | inc_SP : WritesSp .inc_SP
  | dec_SP : WritesSp .dec_SP
  | add_SP_e8 (e : Byte) : WritesSp (.add_SP_e8 e)
  | push (p : R16stk) : WritesSp (Instr.push p)
  | pop (p : R16stk) : WritesSp (Instr.pop p)
  | call_a16 (a : Word) : WritesSp (.call_a16 a)
  | callCond (k : Cond) (a : Word) : WritesSp (Instr.callCond k a)
  | ret : WritesSp .ret
  | retCond (k : Cond) : WritesSp (Instr.retCond k)
  | reti : WritesSp .reti
  | rst (y : Oct) : WritesSp (Instr.rst y)

/-- The instructions that write PC, which is past the instruction when they start (R13): the control transfers, and the
escape byte, whose meaning fetches one more byte. -/
inductive WritesPc : Instr → Prop
  | jp_a16 (a : Word) : WritesPc (.jp_a16 a)
  | jpCond (k : Cond) (a : Word) : WritesPc (Instr.jpCond k a)
  | jp_HL : WritesPc .jp_HL
  | jr_e8 (e : Byte) : WritesPc (.jr_e8 e)
  | jrCond (k : Cond) (e : Byte) : WritesPc (Instr.jrCond k e)
  | call_a16 (a : Word) : WritesPc (.call_a16 a)
  | callCond (k : Cond) (a : Word) : WritesPc (Instr.callCond k a)
  | ret : WritesPc .ret
  | retCond (k : Cond) : WritesPc (Instr.retCond k)
  | reti : WritesPc .reti
  | rst (y : Oct) : WritesPc (Instr.rst y)
  | prefixCb : WritesPc .prefixCb

/-- What an instruction may do to the control state, SP and PC: it keeps each part of which it is no writer. -/
structure ControlFrame (i : Instr) (s t : State) : Prop where
  ime : WritesIme i ∨ t.cpu.ime = s.cpu.ime ∧ t.cpu.eiPending = s.cpu.eiPending
  run : WritesRun i ∨ t.cpu.run = s.cpu.run
  sp : WritesSp i ∨ t.cpu.sp = s.cpu.sp
  pc : WritesPc i ∨ t.cpu.pc = s.cpu.pc

/-! ### The frames of the shared operations -/

section
variable (i : Instr) (s : State)

/-- An instruction that keeps the control state and PC and SP. -/
theorem controlFrame_of_same {t : State} (hc : SameControl s t) (hp : SamePcSp s t) : ControlFrame i s t := by
  obtain ⟨hime, hei, hrun, -⟩ := hc
  obtain ⟨hpc, hsp⟩ := hp
  exact ⟨.inr ⟨hime, hei⟩, .inr hrun, .inr hsp, .inr hpc⟩

theorem controlFrame_done (n : Nat) : ControlFrame i s (s.took n) :=
  controlFrame_of_same i s ⟨rfl, rfl, rfl, rfl⟩ ⟨rfl, rfl⟩

theorem controlFrame_setReg (r : Reg) (v : Byte) (n : Nat) : ControlFrame i s ((s.setReg r v).took n) :=
  have h := regWritten_setReg s r v n
  controlFrame_of_same i s h.control h.pcSp

theorem controlFrame_setReg_setFlags (r : Reg) (v : Byte) (f : Flags) (n : Nat) :
    ControlFrame i s (((s.setReg r v).setFlags f).took n) :=
  have h := regFlagsWritten_set s r v f n
  controlFrame_of_same i s h.control h.pcSp

theorem controlFrame_setFlags (f : Flags) (n : Nat) : ControlFrame i s ((s.setFlags f).took n) :=
  controlFrame_of_same i s ⟨rfl, rfl, rfl, rfl⟩ ⟨rfl, rfl⟩

theorem controlFrame_busWrite (a : Word) (v : Byte) (n : Nat) : ControlFrame i s ((busWrite s a v).took n) :=
  controlFrame_of_same i s (by simp [SameControl]) (by simp [SamePcSp])

theorem controlFrame_busWrite_setFlags (a : Word) (v : Byte) (f : Flags) (n : Nat) :
    ControlFrame i s (((busWrite s a v).setFlags f).took n) :=
  controlFrame_of_same i s (by simp [SameControl]) (by simp [SamePcSp])

/-- A pair write: only the pair SP is SP. -/
theorem controlFrame_setR16 (p : R16) (v : Word) (n : Nat) (hsp : p = .sp → WritesSp i) :
    ControlFrame i s ((s.setR16 p v).took n) := by
  have h := pairFlagsWritten_setR16 s p v n
  obtain ⟨hime, hei, hrun, -⟩ := h.control
  refine ⟨.inr ⟨hime, hei⟩, .inr hrun, ?_, .inr h.pc⟩
  by_cases hp : p = .sp
  · exact .inl (hsp hp)
  · exact .inr (h.sp hp)

/-- A conditional transfer: taken, as `u` says; not taken, nothing but the cycles. -/
theorem controlFrame_conditional (taken : Bool) (n m : Nat) (u : State) (h : ControlFrame i s (u.took n)) :
    ∃ t, (if taken then done n u else done m s) = .next t ∧ ControlFrame i s t := by
  cases taken
  · exact ⟨_, rfl, controlFrame_done i s m⟩
  · exact ⟨_, rfl, h⟩

/-- A jump. -/
theorem controlFrame_setPc (v : Word) (n : Nat) (hpc : WritesPc i) : ControlFrame i s ((s.setPc v).took n) :=
  ⟨.inr ⟨rfl, rfl⟩, .inr rfl, .inr rfl, .inl hpc⟩

/-- A push. -/
theorem controlFrame_push16 (v : Word) (n : Nat) (hsp : WritesSp i) : ControlFrame i s ((push16 s v).took n) :=
  ⟨.inr (by simp), .inr (by simp), .inl hsp, .inr (by simp)⟩

/-- A call. -/
theorem controlFrame_callTo (a : Word) (n : Nat) (hsp : WritesSp i) (hpc : WritesPc i) :
    ControlFrame i s ((callTo s a).took n) :=
  ⟨.inr (by simp [callTo]), .inr (by simp [callTo]), .inl hsp, .inl hpc⟩

/-- A return. -/
theorem controlFrame_returned (n : Nat) (hsp : WritesSp i) (hpc : WritesPc i) :
    ControlFrame i s ((returned s).took n) :=
  ⟨.inr ⟨rfl, rfl⟩, .inr rfl, .inl hsp, .inl hpc⟩

end

/-- A CB-table rule keeps the control state and PC and SP, whichever byte selects it. -/
theorem cbByte_controlFrame (b : Byte) (i : Instr) (s : State) : ∃ t, cbByte b s = .next t ∧ ControlFrame i s t := by
  unfold cbByte
  split <;> cases r8Of (fieldZ b)
  case h_1.reg r => exact ⟨_, rfl, controlFrame_setReg_setFlags i s _ _ _ _⟩
  case h_1.atHL => exact ⟨_, rfl, controlFrame_busWrite_setFlags i s _ _ _ _⟩
  case h_2.reg r => exact ⟨_, rfl, controlFrame_setFlags i s _ _⟩
  case h_2.atHL => exact ⟨_, rfl, controlFrame_setFlags i s _ _⟩
  case h_3.reg r => exact ⟨_, rfl, controlFrame_setReg i s _ _ _⟩
  case h_3.atHL => exact ⟨_, rfl, controlFrame_busWrite i s _ _ _⟩
  case h_4.reg r => exact ⟨_, rfl, controlFrame_setReg i s _ _ _⟩
  case h_4.atHL => exact ⟨_, rfl, controlFrame_busWrite i s _ _ _⟩

/-- Every instruction but an invalid byte completes within its frame. -/
theorem exec_controlFrame_or_invalid (i : Instr) (s : State) :
    (∃ op, i = .invalid op) ∨ ∃ t, exec i s = .next t ∧ ControlFrame i s t := by
  induction i using casesByForm with
  | invalid op => exact .inl ⟨op, rfl⟩
  | ldRegReg dst src => exact .inr ⟨_, exec_ldRegReg dst src s, controlFrame_setReg _ s _ _ _⟩
  | ldRegMem dst => exact .inr ⟨_, exec_ldRegMem dst s, controlFrame_setReg _ s _ _ _⟩
  | ldRegImm dst n => exact .inr ⟨_, exec_ldRegImm dst n s, controlFrame_setReg _ s _ _ _⟩
  | resReg y r => exact .inr ⟨_, exec_resReg y r s, controlFrame_setReg _ s _ _ _⟩
  | setReg y r => exact .inr ⟨_, exec_setReg y r s, controlFrame_setReg _ s _ _ _⟩
  | ld_A_ata16 | ldh_A_ata8 | ld_A_atC => exact .inr ⟨_, rfl, controlFrame_setReg _ s .a _ _⟩
  | aluReg op r => exact .inr ⟨_, exec_aluReg op r s, controlFrame_setReg_setFlags _ s _ _ _ _⟩
  | aluMem op => exact .inr ⟨_, exec_aluMem op s, controlFrame_setReg_setFlags _ s _ _ _ _⟩
  | aluImm op n => exact .inr ⟨_, exec_aluImm op n s, controlFrame_setReg_setFlags _ s _ _ _ _⟩
  | incReg r => exact .inr ⟨_, exec_incReg r s, controlFrame_setReg_setFlags _ s _ _ _ _⟩
  | decReg r => exact .inr ⟨_, exec_decReg r s, controlFrame_setReg_setFlags _ s _ _ _ _⟩
  | rotReg op r => exact .inr ⟨_, exec_rotReg op r s, controlFrame_setReg_setFlags _ s _ _ _ _⟩
  | rlca | rrca | rla | rra | daa | cpl => exact .inr ⟨_, rfl, controlFrame_setReg_setFlags _ s .a _ _ _⟩
  | bitReg y r => exact .inr ⟨_, exec_bitReg y r s, controlFrame_setFlags _ s _ _⟩
  | bitMem y => exact .inr ⟨_, exec_bitMem y s, controlFrame_setFlags _ s _ _⟩
  | scf | ccf => exact .inr ⟨_, rfl, controlFrame_setFlags _ s _ _⟩
  | ldMemReg r => exact .inr ⟨_, exec_ldMemReg r s, controlFrame_busWrite _ s _ _ _⟩
  | resMem y => exact .inr ⟨_, exec_resMem y s, controlFrame_busWrite _ s _ _ _⟩
  | setMem y => exact .inr ⟨_, exec_setMem y s, controlFrame_busWrite _ s _ _ _⟩
  | ld_atHL_d8 | ld_ata16_A | ldh_ata8_A | ld_atC_A => exact .inr ⟨_, rfl, controlFrame_busWrite _ s _ _ _⟩
  | rotMem op => exact .inr ⟨_, exec_rotMem op s, controlFrame_busWrite_setFlags _ s _ _ _ _⟩
  | inc_atHL | dec_atHL => exact .inr ⟨_, rfl, controlFrame_busWrite_setFlags _ s _ _ _ _⟩
  | ldAccMem p =>
    exact .inr ⟨_, exec_ldAccMem p s, by cases p <;> exact controlFrame_of_same _ s ⟨rfl, rfl, rfl, rfl⟩ ⟨rfl, rfl⟩⟩
  | ldMemAcc p =>
    refine .inr ⟨_, exec_ldMemAcc p s, ?_⟩
    cases p <;>
      exact controlFrame_of_same _ s (by simp [SameControl, State.stepR16mem]) (by simp [SamePcSp, State.stepR16mem])
  | ld_ata16_SP a =>
    exact .inr ⟨_, rfl, controlFrame_of_same _ s (by simp [SameControl, write16]) (by simp [SamePcSp, write16])⟩
  | addHl p => exact .inr ⟨_, exec_addHl p s, controlFrame_of_same _ s ⟨rfl, rfl, rfl, rfl⟩ ⟨rfl, rfl⟩⟩
  | ld_HL_SPe8 e => exact .inr ⟨_, rfl, controlFrame_of_same _ s ⟨rfl, rfl, rfl, rfl⟩ ⟨rfl, rfl⟩⟩
  | nop => exact .inr ⟨_, rfl, controlFrame_done _ s _⟩
  | ldR16 p v =>
    exact .inr ⟨_, exec_ldR16 p v s, controlFrame_setR16 _ s p _ _ (by rintro rfl; exact .ld_SP_d16 v)⟩
  | incR16 p => exact .inr ⟨_, exec_incR16 p s, controlFrame_setR16 _ s p _ _ (by rintro rfl; exact .inc_SP)⟩
  | decR16 p => exact .inr ⟨_, exec_decR16 p s, controlFrame_setR16 _ s p _ _ (by rintro rfl; exact .dec_SP)⟩
  | ld_SP_HL => exact .inr ⟨_, rfl, ⟨.inr ⟨rfl, rfl⟩, .inr rfl, .inl .ld_SP_HL, .inr rfl⟩⟩
  | add_SP_e8 e => exact .inr ⟨_, rfl, ⟨.inr ⟨rfl, rfl⟩, .inr rfl, .inl (.add_SP_e8 e), .inr rfl⟩⟩
  | push p => exact .inr ⟨_, exec_push p s, controlFrame_push16 _ s _ _ (.push p)⟩
  | pop p =>
    refine .inr ⟨_, exec_pop p s, ?_⟩
    cases p <;> exact ⟨.inr ⟨rfl, rfl⟩, .inr rfl, .inl (.pop _), .inr rfl⟩
  | jp_a16 a => exact .inr ⟨_, rfl, controlFrame_setPc _ s _ _ (.jp_a16 a)⟩
  | jp_HL => exact .inr ⟨_, rfl, controlFrame_setPc _ s _ _ .jp_HL⟩
  | jr_e8 e => exact .inr ⟨_, rfl, controlFrame_setPc _ s _ _ (.jr_e8 e)⟩
  | jpCond k a =>
    rw [exec_jpCond]
    exact .inr (controlFrame_conditional _ s _ _ _ _ (controlFrame_setPc _ s _ _ (.jpCond k a)))
  | jrCond k e =>
    rw [exec_jrCond]
    exact .inr (controlFrame_conditional _ s _ _ _ _ (controlFrame_setPc _ s _ _ (.jrCond k e)))
  | call_a16 a => exact .inr ⟨_, rfl, controlFrame_callTo _ s _ _ (.call_a16 a) (.call_a16 a)⟩
  | callCond k a =>
    rw [exec_callCond]
    exact .inr (controlFrame_conditional _ s _ _ _ _ (controlFrame_callTo _ s _ _ (.callCond k a) (.callCond k a)))
  | rst y => exact .inr ⟨_, exec_rst y s, controlFrame_callTo _ s _ _ (.rst y) (.rst y)⟩
  | ret => exact .inr ⟨_, rfl, controlFrame_returned _ s _ .ret .ret⟩
  | retCond k =>
    rw [exec_retCond]
    exact .inr (controlFrame_conditional _ s _ _ _ _ (controlFrame_returned _ s _ (.retCond k) (.retCond k)))
  | reti => exact .inr ⟨_, rfl, ⟨.inl .reti, .inr rfl, .inl .reti, .inl .reti⟩⟩
  | halt => exact .inr ⟨_, rfl, ⟨.inr ⟨rfl, rfl⟩, .inl .halt, .inr rfl, .inr rfl⟩⟩
  | stop => exact .inr ⟨_, rfl, ⟨.inr ⟨rfl, rfl⟩, .inl .stop, .inr rfl, .inr rfl⟩⟩
  | di => exact .inr ⟨_, rfl, ⟨.inl .di, .inr rfl, .inr rfl, .inr rfl⟩⟩
  | ei =>
    refine .inr ⟨_, rfl, ?_⟩
    unfold enableIrq
    split <;> exact ⟨.inl .ei, .inr rfl, .inr rfl, .inr rfl⟩
  | prefixCb =>
    obtain ⟨t, ht, hime, hrun, hsp, -⟩ := cbByte_controlFrame (s.readByte 1 s.cpu.pc) .prefixCb (s.setPc (s.cpu.pc + 1))
    exact .inr ⟨t, ht, hime, hrun, hsp, .inl .prefixCb⟩

/-- Every instruction that completes keeps the parts of the control state of which it is no writer. -/
theorem exec_controlFrame (i : Instr) (s t : State) (h : exec i s = .next t) : ControlFrame i s t := by
  obtain ⟨op, rfl⟩ | ⟨u, hu, hframe⟩ := exec_controlFrame_or_invalid i s
  · cases (show (Host.Outcome.fault (.invalidOpcode op (s.cpu.pc - 1)) : Result) = .next t from h)
  · rw [hu] at h
    cases h
    exact hframe

/-- Settles O59: an instruction that is none of a part's writers keeps that part, and none records a fault and goes on. -/
theorem controlStateWriters : Obligations.ControlStateWriters := by
  intro i s t h
  obtain ⟨ws, c, n, -, -, hc, ht⟩ := exec_completes i s t h
  obtain ⟨hime, hrun, hsp, hpc⟩ := exec_controlFrame i s t h
  refine ⟨ht ▸ hc.fault, fun di ei reti => hime.resolve_left ?_, fun halt stop => hrun.resolve_left ?_,
    fun ldD16 ldHl inc dec add push pop call callCond ret retCond reti rst => hsp.resolve_left ?_,
    fun jp jpCond jpHl jr jrCond call callCond ret retCond reti rst prefixCb => hpc.resolve_left ?_⟩
  · rintro ⟨⟩
    exacts [di rfl, ei rfl, reti rfl]
  · rintro ⟨⟩
    exacts [halt rfl, stop rfl]
  · intro w
    cases w
    exacts [ldD16 _ rfl, ldHl rfl, inc rfl, dec rfl, add _ rfl, push _ rfl, pop _ rfl, call _ rfl, callCond _ _ rfl, ret rfl,
      retCond _ rfl, reti rfl, rst _ rfl]
  · intro w
    cases w
    exacts [jp _ rfl, jpCond _ _ rfl, jpHl rfl, jr _ rfl, jrCond _ _ rfl, call _ rfl, callCond _ _ rfl, ret rfl,
      retCond _ rfl, reti rfl, rst _ rfl, prefixCb rfl]

end Sys2Proof.Proofs
end

section
/-! Proofs, family 10_state.md: the interrupt, timer and joypad registers as bus addresses. -/

namespace Sys2Proof.Proofs

open Sys2Proof.Machine Sys2Proof.Laws

/-! ### The bus inside the I/O block -/

/-- A write inside the I/O block is the register's write. -/
theorem busWrite_io (s : State) (a : Word) (v : Byte) (h1 : 0xFF00 ≤ a.toNat) (h2 : a.toNat ≤ 0xFF7F) :
    busWrite s a v = ioWrite s a v := by
  simp only [busWrite, region_io a h1 h2]

/-- A read inside the I/O block is the register's read. -/
theorem busRead_io (joy : BitVec 4) (s : State) (a : Word) (h1 : 0xFF00 ≤ a.toNat) (h2 : a.toNat ≤ 0xFF7F) :
    busRead joy s a = ioRead joy s a := by
  simp only [busRead_above joy s a (by omega), region_io a h1 h2]

/-- A bit field above another, as numbers. -/
theorem append_toNat {m n : Nat} (x : BitVec m) (y : BitVec n) : (x ++ y).toNat = x.toNat * 2 ^ n + y.toNat := by
  rw [BitVec.toNat_append, ← Nat.shiftLeft_add_eq_or_of_lt y.isLt, Nat.shiftLeft_eq]

/-- Settles O49: IE's region and IF's register, whose field is the low five bits of the byte. -/
theorem interruptRegistersOnBus : Obligations.InterruptRegistersOnBus := by
  intro s joy v
  refine ⟨rfl, ?_, busWrite_io s 0xFF0F v (by decide) (by decide), ?_⟩
  · rw [busRead_above joy s 0xFFFF (by decide)]
    exact append_toNat s.config.ieHi s.irq.enable
  · rw [busRead_io joy s 0xFF0F (by decide) (by decide)]
    exact append_toNat s.config.ifHi s.irq.request

/-- Settles O50: each timer register is one register of the I/O block. -/
theorem timerRegistersOnBus : Obligations.TimerRegistersOnBus := by
  intro s joy v
  refine ⟨busWrite_io s 0xFF04 v (by decide) (by decide), busWrite_io s 0xFF05 v (by decide) (by decide),
    busWrite_io s 0xFF06 v (by decide) (by decide), busWrite_io s 0xFF07 v (by decide) (by decide),
    busRead_io joy s 0xFF04 (by decide) (by decide), busRead_io joy s 0xFF05 (by decide) (by decide),
    busRead_io joy s 0xFF06 (by decide) (by decide), ?_⟩
  rw [busRead_io joy s 0xFF07 (by decide) (by decide)]
  exact append_toNat 0b11111#5 s.timer.tac

/-! ### P1, the unassigned addresses and the unmapped ones -/

/-- A write of P1 stores its select lines, bits 5:4 (10_state.md R30). -/
theorem busWrite_p1 (s : State) (v : Byte) :
    busWrite s 0xFF00 v = { s with p1Select := BitVec.ofNat 2 (v.toNat / 16) } := by
  have field : v.extractLsb' 4 2 = BitVec.ofNat 2 (v.toNat / 16) :=
    congrArg (BitVec.ofNat 2) (Nat.shiftRight_eq_div_pow v.toNat 4)
  rw [busWrite_io s 0xFF00 v (by decide) (by decide), ← field]
  rfl

/-- A read of P1: 1 in bits 7:6, the select lines, the host's nibble (R30). -/
theorem busRead_p1 (s : State) (joy : BitVec 4) :
    (busRead joy s 0xFF00).toNat = 0xC0 + s.p1Select.toNat * 16 + joy.toNat := by
  rw [busRead_io joy s 0xFF00 (by decide) (by decide)]
  show (0b11#2 ++ s.p1Select ++ joy : BitVec 8).toNat = _
  rw [append_toNat, append_toNat, show (0b11#2).toNat = 3 from rfl]
  omega

/-- The unassigned addresses of the I/O block (20_memory.md R54, R55). -/
theorem ioReg_unassigned (a : Word)
    (h : a ∈ ([0xFF01, 0xFF02, 0xFF03] : List Word) ∨ (0xFF08 ≤ a.toNat ∧ a.toNat ≤ 0xFF0E)
      ∨ (0xFF10 ≤ a.toNat ∧ a.toNat ≤ 0xFF3F) ∨ (0xFF4C ≤ a.toNat ∧ a.toNat ≤ 0xFF7F)) :
    ioReg a = .unassigned ∧ 0xFF00 ≤ a.toNat ∧ a.toNat ≤ 0xFF7F := by
  rcases h with h | h
  · simp only [List.mem_cons, List.not_mem_nil, or_false] at h
    rcases h with rfl | rfl | rfl <;> decide
  · refine ⟨?_, by omega, by omega⟩
    by_contra hr
    have ha := eq_ioAddr a hr
    generalize ioReg a = r at ha hr
    subst ha
    cases r <;> simp [ioAddr] at h hr

/-- A bus write keeps every byte that its frame names. -/
theorem bytesKept_busWrite (s : State) (a : Word) (v : Byte) : BytesKept [a] s (busWrite s a v) := by
  intro joy x hx hw
  have ha : a ∈ [a] := List.mem_singleton.mpr rfl
  exact busRead_busWrite_other joy s a x v (hx a ha) (hw.imp_left fun h => h a ha)

/-- Under STORE an unassigned address is a plain cell (20_memory.md R55). -/
theorem unassigned_store (joy : BitVec 4) (s : State) (a : Word) (v : Byte) (hr : ioReg a = .unassigned)
    (h1 : 0xFF00 ≤ a.toNat) (h2 : a.toNat ≤ 0xFF7F) (hc : s.config.ioUnassigned = .store) :
    busRead joy (busWrite s a v) a = v := by
  rw [busWrite_io s a v h1 h2, busRead_io joy _ a h1 h2]
  simp only [ioRead, ioWrite, hr, hc, read_write_same]

/-- Under OPEN_FF an unassigned address reads 0xFF and ignores writes (R55). -/
theorem unassigned_openFF (joy : BitVec 4) (s : State) (a : Word) (v : Byte) (hr : ioReg a = .unassigned)
    (h1 : 0xFF00 ≤ a.toNat) (h2 : a.toNat ≤ 0xFF7F) (hc : s.config.ioUnassigned = .openFF) :
    busRead joy s a = 0xFF ∧ busWrite s a v = s := by
  rw [busWrite_io s a v h1 h2, busRead_io joy _ a h1 h2]
  simp only [ioRead, ioWrite, hr, hc, and_self]

/-- The unmapped addresses read 0xFF and ignore writes (20_memory.md R53). -/
theorem unmapped_bus (joy : BitVec 4) (s : State) (a : Word) (v : Byte) (h1 : 0xFEA0 ≤ a.toNat) (h2 : a.toNat ≤ 0xFEFF) :
    busRead joy s a = 0xFF ∧ busWrite s a v = s := by
  simp only [busRead_above joy s a (by omega), busWrite, region_unmapped a h1 h2, and_self]

/-! ### The host's turn -/

/-- `JoypadChange` requests the joypad interrupt, and nothing else (60_exceptions.md R233). -/
theorem hostTurn_change (s : State) (rest : List Bool) (h : s.joypadEvents = true :: rest) :
    hostTurn s = { s with joypadEvents := rest, irq := { s.irq with request := s.irq.request ||| 0b10000 } } := by
  unfold hostTurn
  rw [h]
  rfl

theorem hostTurn_noChange (s : State) (rest : List Bool) (h : s.joypadEvents = false :: rest) :
    hostTurn s = { s with joypadEvents := rest } := by
  unfold hostTurn
  rw [h]
  rfl

theorem hostTurn_end (s : State) (h : s.joypadEvents = []) : hostTurn s = s := by
  unfold hostTurn
  rw [h]

/-- Settles O52, clause by clause: P1, the unassigned addresses under both parameters, the unmapped ones, and the three
forms of the host's schedule. -/
theorem joypadUnassignedAndUnmapped : Obligations.JoypadUnassignedAndUnmapped := by
  refine ⟨fun s joy v => ⟨busWrite_p1 s v, busRead_p1 s joy⟩, fun s joy a v ha => ?_,
    fun s joy a v => unmapped_bus joy s a v, hostTurn_change, hostTurn_noChange, hostTurn_end⟩
  obtain ⟨hr, h1, h2⟩ := ioReg_unassigned a ha
  exact ⟨fun hc => ⟨unassigned_store joy s a v hr h1 h2 hc, bytesKept_busWrite s a v⟩,
    unassigned_openFF joy s a v hr h1 h2⟩

end Sys2Proof.Proofs
end

section
/-! Proofs, family 20_memory.md: plain storage and the stack in it, the cartridge's two windows, and the boot overlay. -/

namespace Sys2Proof.Proofs

open Sys2Proof.Machine Sys2Proof.Laws

/-! ### Plain storage and the echo -/

/-- The ranges of plain storage (20_memory.md R37). -/
theorem plainStorage_iff (a : Word) : plainStorage a = true ↔ (0x8000 ≤ a.toNat ∧ a.toNat ≤ 0x9FFF)
    ∨ (0xC000 ≤ a.toNat ∧ a.toNat ≤ 0xFE9F) ∨ (0xFF80 ≤ a.toNat ∧ a.toNat ≤ 0xFFFE) := by
  have hc := region_cases a
  unfold plainStorage
  cases hr : region a <;>
    simp only [hr, reduceCtorEq, false_and, false_or, or_false, true_and, true_iff, false_iff] at hc ⊢ <;> omega

/-- An echo address and the work-RAM address 0x2000 below it name one cell of plain storage (R51). -/
theorem echo_cell (a : Word) (h1 : 0xE000 ≤ a.toNat) (h2 : a.toNat ≤ 0xFDFF) :
    plainStorage a = true ∧ plainStorage (a - 0x2000) = true ∧ mirrored (a - 0x2000) = mirrored a := by
  have below : (a - 0x2000).toNat = a.toNat - 0x2000 :=
    BitVec.toNat_sub_of_le (BitVec.le_def.mpr (Nat.le_trans (by decide) h1))
  have notEcho : region (a - 0x2000) ≠ .echo := by
    have := region_cases (a - 0x2000)
    intro hr
    simp only [hr, reduceCtorEq, false_and, false_or, or_false, true_and] at this
    omega
  refine ⟨(plainStorage_iff _).mpr (by omega), (plainStorage_iff _).mpr (by omega), ?_⟩
  rw [mirrored, mirrored, if_neg notEcho, if_pos (region_echo a h1 h2)]

/-- Settles O45: the ranges of the address map, a read after a write of the same cell with the frame of every write, and one
cell for an echo address and its work-RAM address. -/
theorem plainStorageReadsBack : Obligations.PlainStorageReadsBack := by
  refine ⟨plainStorage_iff, fun s joy a v h => ⟨busRead_busWrite_same joy s a v h, bytesKept_busWrite s a v⟩, ?_⟩
  intro s joy a v h1 h2
  obtain ⟨hecho, hwram, hcell⟩ := echo_cell a h1 h2
  constructor
  · rw [busRead_storage joy s a hecho, busRead_storage joy s _ hwram, hcell]
  · rw [busWrite_storage s a v hecho, busWrite_storage s _ v hwram, hcell]

/-! ### A push and the pop after it -/

/-- A stack pair that is written reads as the value written, but for the low four bits of F. -/
theorem setR16stk_r16stk (s : State) (p : R16stk) (v : Word) :
    (s.setR16stk p v).r16stk p = if p = .af then v &&& 0xFFF0 else v := by
  cases p
  case af => exact setAf_af s v
  all_goals exact cat_hi8_lo8 v

theorem setR16stk_sp (s : State) (p : R16stk) (v : Word) : (s.setR16stk p v).cpu.sp = s.cpu.sp := by
  cases p <;> rfl

theorem setR16stk_pc (s : State) (p : R16stk) (v : Word) : (s.setR16stk p v).cpu.pc = s.cpu.pc := by
  cases p <;> rfl

theorem took_r16stk (s : State) (n : Nat) (p : R16stk) : (s.took n).r16stk p = s.r16stk p := by
  cases p <;> rfl

/-- Settles O24: what the push stored is what the pop takes, and SP falls and rises by 2. -/
theorem pushThenPop : Obligations.PushThenPop := by
  intro p q s h1 h2
  refine ⟨_, _, exec_push p s, exec_pop q _, ?_, ?_, ?_⟩
  · have popped : popValue ((push16 s (s.r16stk p)).took 16) = s.r16stk p :=
      popValue_push16 s _ _ (push16 s (s.r16stk p)).cpu 16 rfl (by simp) h1 h2
    rw [took_r16stk, setR16stk_r16stk, popped]
  · simp [setR16stk_sp, popSp]
  · simp [setR16stk_pc, popSp]

/-! ### Bank commands -/

/-- A write to the ROM region is a bank command (20_memory.md R39). -/
theorem busWrite_rom (s : State) (a : Word) (v : Byte) (h : a.toNat ≤ 0x7FFF) : busWrite s a v = bankCommand s a v := by
  unfold busWrite
  rcases region_rom a h with hr | hr <;> rw [hr]

/-- A ROM-only cartridge ignores every bank command (R42). -/
theorem bankCommand_romOnly (s : State) (a : Word) (v : Byte) (hk : s.cart.kind = .romOnly) : bankCommand s a v = s := by
  unfold bankCommand
  rw [hk]

/-- A bank command below 0x6000 counts no warning. -/
theorem bankCommand_below (s : State) (a : Word) (v : Byte) (hk : s.cart.kind = .mbc1) (h : a.toNat < 0x6000) :
    bankCommand s a v = { s with mbc := mbcCommand s.mbc a v } := by
  have quiet : modeWarning a v = false := by simp [modeWarning, h]
  unfold bankCommand
  rw [hk, quiet]
  rfl

/-- The RAM-enable window (R43). -/
theorem mbcCommand_ramEnable (m : Mbc) (a : Word) (v : Byte) (h : a.toNat ≤ 0x1FFF) :
    mbcCommand m a v = { m with ramEnable := decide (v.toNat % 16 = 10) } := by
  rw [mbcCommand, if_pos h]
  rfl

/-- The value of the bank select as a number: 0 selects 1 (R44). -/
theorem bankSelect_eq (v : Byte) : (if v.extractLsb' 0 5 = 0 then 1 else v.extractLsb' 0 5)
    = BitVec.ofNat 5 (if v.toNat % 32 = 0 then 1 else v.toNat % 32) := by
  have field : (v.extractLsb' 0 5).toNat = v.toNat % 32 := by simp [BitVec.extractLsb'_toNat]
  have zero : v.extractLsb' 0 5 = 0 ↔ v.toNat % 32 = 0 := by
    rw [← BitVec.toNat_inj, field]
    rfl
  simp only [zero]
  split_ifs
  · rfl
  · apply BitVec.eq_of_toNat_eq
    rw [field, BitVec.toNat_ofNat, Nat.mod_mod]

/-- The bank-select window (R44). -/
theorem mbcCommand_romLo5 (m : Mbc) (a : Word) (v : Byte) (h1 : 0x2000 ≤ a.toNat) (h2 : a.toNat ≤ 0x3FFF) :
    mbcCommand m a v = { m with romLo5 := BitVec.ofNat 5 (if v.toNat % 32 = 0 then 1 else v.toNat % 32) } := by
  rw [mbcCommand, if_neg (by omega), if_pos h2, bankSelect_eq]

/-- The upper-bits window (R45). -/
theorem mbcCommand_bank2 (m : Mbc) (a : Word) (v : Byte) (h1 : 0x4000 ≤ a.toNat) (h2 : a.toNat ≤ 0x5FFF) :
    mbcCommand m a v = { m with bank2 := BitVec.ofNat 2 v.toNat } := by
  rw [mbcCommand, if_neg (by omega), if_neg (by omega), if_pos h2]
  rfl

/-- The mode window (R46), with its warning (60_exceptions.md R219). -/
theorem bankCommand_mode (s : State) (a : Word) (v : Byte) (hk : s.cart.kind = .mbc1) (h : 0x6000 ≤ a.toNat) :
    bankCommand s a v = { s with mbc := { s.mbc with bankMode := decide (v.toNat % 2 = 1) }
                                 warnings := s.warnings + v.toNat % 2 } := by
  have bit : v.getLsbD 0 = decide (v.toNat % 2 = 1) := Nat.testBit_zero v.toNat
  have command : mbcCommand s.mbc a v = { s.mbc with bankMode := decide (v.toNat % 2 = 1) } := by
    rw [mbcCommand, if_neg (by omega), if_neg (by omega), if_neg (by omega), bit]
  have count : (if modeWarning a v then s.warnings + 1 else s.warnings) = s.warnings + v.toNat % 2 := by
    rw [modeWarning, bit]
    rcases Nat.mod_two_eq_zero_or_one v.toNat with hv | hv <;> simp [h, hv]
  unfold bankCommand
  rw [hk, command, count]

/-- Settles O46: a write below 0x8000 is a bank command, and each window writes its field. -/
theorem bankCommands : Obligations.BankCommands := by
  intro s a v h
  rw [busWrite_rom s a v h]
  refine ⟨bankCommand_romOnly s a v, fun hk h2 => ?_, fun hk h1 h2 => ?_, fun hk h1 h2 => ?_, bankCommand_mode s a v⟩
  · rw [bankCommand_below s a v hk (by omega), mbcCommand_ramEnable s.mbc a v h2]
  · rw [bankCommand_below s a v hk (by omega), mbcCommand_romLo5 s.mbc a v h1 h2]
  · rw [bankCommand_below s a v hk (by omega), mbcCommand_bank2 s.mbc a v h1 h2]

/-! ### The ROM region -/

/-- Where the overlay is out of the way, a read of the ROM region is a read of the image (20_memory.md R38). -/
theorem busRead_rom (joy : BitVec 4) (s : State) (a : Word) (h : a.toNat ≤ 0x7FFF)
    (hb : s.bootMapped = false ∨ 0x0100 ≤ a.toNat) : busRead joy s a = romRead s a := by
  have clear : bootByte s a = none := by
    rcases hb with hb | hb
    · unfold bootByte
      rw [hb]
    · exact bootByte_above s a hb
  unfold busRead
  rw [clear]
  rcases region_rom a h with hr | hr <;> rw [hr]

/-- A ROM-only image is shown as it stands (R42). -/
theorem romRead_romOnly (s : State) (a : Word) (hk : s.cart.kind = .romOnly) : romRead s a = s.cart.byte a.toNat := by
  rw [romRead, romOffset, hk]

/-- Below 0x4000 every cartridge shows its bank 0 (R42, R47). -/
theorem romRead_bank0 (s : State) (a : Word) (h : a.toNat ≤ 0x3FFF) : romRead s a = s.cart.byte a.toNat := by
  rw [romRead, romOffset]
  cases s.cart.kind
  case romOnly => rfl
  case mbc1 => simp only [if_pos h]

/-- The switchable window shows the bank that both fields select (R47). -/
theorem romRead_window (s : State) (a : Word) (hk : s.cart.kind = .mbc1) (h : 0x4000 ≤ a.toNat) :
    romRead s a = s.cart.byte ((s.mbc.bank2.toNat * 32 + s.mbc.romLo5.toNat) * 0x4000 + (a.toNat - 0x4000)) := by
  have bank : s.mbc.romBank = s.mbc.bank2.toNat * 32 + s.mbc.romLo5.toNat := append_toNat s.mbc.bank2 s.mbc.romLo5
  have offset : (a - 0x4000).toNat = a.toNat - 0x4000 := BitVec.toNat_sub_of_le (BitVec.le_def.mpr h)
  rw [romRead, romOffset, hk]
  simp only [if_neg (show ¬ a.toNat ≤ 0x3FFF by omega), bank, offset]

/-- An offset past the image reads 0xFF (R42, R48). -/
theorem cartByte_past (c : Cart) (o : Nat) (h : c.size ≤ o) : c.byte o = 0xFF :=
  if_neg (Nat.not_lt.mpr h)

/-- The bank that a bank select of 5 bits leaves: 0 behaves as 1 (R44). -/
theorem bankSelect_toNat (n : Byte) (hn : n.toNat < 32) :
    (BitVec.ofNat 5 (if n.toNat % 32 = 0 then 1 else n.toNat % 32)).toNat = max 1 n.toNat := by
  rw [BitVec.toNat_ofNat]
  split_ifs <;> omega

/-- Settles O47: the offset that each window shows, and the bank fields after a bank select. -/
theorem romReads : Obligations.RomReads := by
  intro s joy a ha hb
  rw [busRead_rom joy s a ha hb]
  refine ⟨romRead_romOnly s a, fun _ h => romRead_bank0 s a h, romRead_window s a, cartByte_past s.cart, ?_⟩
  intro b n hk h hb1 hb2 hn hbank
  have select : busWrite s b n = { s with mbc := { s.mbc with
      romLo5 := BitVec.ofNat 5 (if n.toNat % 32 = 0 then 1 else n.toNat % 32) } } := by
    rw [busWrite_rom s b n (by omega), bankCommand_below s b n hk (by omega), mbcCommand_romLo5 s.mbc b n hb1 hb2]
  rw [busRead_rom joy _ a ha (by rwa [busWrite_bootMapped]), romRead_window _ a (by rwa [busWrite_cart]) h]
  have low : s.mbc.bank2.toNat = 0 := by rw [hbank]; rfl
  simp only [select, low, bankSelect_toNat n hn, Nat.zero_mul, Nat.zero_add]

/-! ### External RAM -/

section
variable (joy : BitVec 4) (s : State) (a : Word) (h1 : 0xA000 ≤ a.toNat) (h2 : a.toNat ≤ 0xBFFF)
include h1

/-- When the external-RAM window answers (20_memory.md R42, R49). -/
theorem eramAnswers_iff :
    eramAnswers s a = true ↔ s.cart.kind = .mbc1 ∧ s.mbc.ramEnable = true ∧ a.toNat - 0xA000 < s.cart.eramSize := by
  have offset : (a - 0xA000).toNat = a.toNat - 0xA000 := BitVec.toNat_sub_of_le (BitVec.le_def.mpr h1)
  simp only [eramAnswers, offset, Bool.and_eq_true, beq_iff_eq, decide_eq_true_eq, and_assoc]

include h2

theorem busRead_eram : busRead joy s a = if eramAnswers s a then Memory.read s.mem (eramKey a) else 0xFF := by
  rw [busRead_above joy s a (by omega), region_eram a h1 h2, eramRead]

theorem busWrite_eram (v : Byte) :
    busWrite s a v = if eramAnswers s a then { s with mem := Memory.write s.mem (eramKey a) v } else s := by
  rw [busWrite, region_eram a h1 h2, eramWrite]

end

/-- Settles O48: the window answers in one case alone, and then it is a plain cell, of which no bank field is a part. -/
theorem externalRam : Obligations.ExternalRam := by
  intro s joy a v h1 h2
  constructor
  · intro hout
    have silent : ¬ eramAnswers s a = true := by
      rw [eramAnswers_iff s a h1]
      rintro ⟨hk, he, hs⟩
      rcases hout with hout | hout | hout
      · rw [hk] at hout
        cases hout
      · rw [he] at hout
        cases hout
      · omega
    exact ⟨by rw [busRead_eram joy s a h1 h2, if_neg silent], by rw [busWrite_eram s a h1 h2, if_neg silent]⟩
  · intro hk he hs
    have answers : eramAnswers s a = true := (eramAnswers_iff s a h1).mpr ⟨hk, he, hs⟩
    refine ⟨?_, bytesKept_busWrite s a v, fun m hm => ?_⟩
    · have still : eramAnswers { s with mem := Memory.write s.mem (eramKey a) v } a = true := answers
      rw [busWrite_eram s a h1 h2, if_pos answers, busRead_eram joy _ a h1 h2, if_pos still, read_write_same]
    · have banked : eramAnswers { s with mbc := m } a = true := (eramAnswers_iff _ a h1).mpr ⟨hk, hm, hs⟩
      rw [busRead_eram joy _ a h1 h2, if_pos banked, busRead_eram joy s a h1 h2, if_pos answers]

/-! ### The boot overlay -/

/-- Under the overlay a read gives the boot image (20_memory.md R40). -/
theorem busRead_overlay (joy : BitVec 4) (s : State) (image : Vector Byte 256) (a : Word) (hm : s.bootMapped = true)
    (hi : s.boot = some image) (h : a.toNat < 256) : busRead joy s a = image[a.toNat] := by
  have covered : bootByte s a = some image[a.toNat] := by
    unfold bootByte
    rw [hm, hi]
    exact Vector.getElem?_eq_getElem h
  unfold busRead
  rw [covered]

/-- Above the overlay a read does not see whether it is mapped. -/
theorem busRead_beyondOverlay (joy : BitVec 4) (s : State) (b : Bool) (a : Word) (h : 256 ≤ a.toNat) :
    busRead joy s a = busRead joy { s with bootMapped := b } a := by
  rw [busRead_above joy s a h, busRead_above joy _ a h]
  rfl

theorem ioWrite_withBootMapped (s : State) (b : Bool) (a : Word) (v : Byte) :
    ioWrite { s with bootMapped := b } a v = { ioWrite s a v with bootMapped := b } := by
  unfold ioWrite
  cases ioReg a
  case dma => cases s.config.dma; rfl
  case unassigned => cases s.config.ioUnassigned <;> rfl
  all_goals rfl

theorem eramWrite_withBootMapped (s : State) (b : Bool) (a : Word) (v : Byte) :
    eramWrite { s with bootMapped := b } a v = { eramWrite s a v with bootMapped := b } := by
  have answers : eramAnswers { s with bootMapped := b } a = eramAnswers s a := rfl
  unfold eramWrite
  rw [answers]
  cases eramAnswers s a <;> rfl

theorem bankCommand_withBootMapped (s : State) (b : Bool) (a : Word) (v : Byte) :
    bankCommand { s with bootMapped := b } a v = { bankCommand s a v with bootMapped := b } := by
  unfold bankCommand
  cases s.cart.kind <;> rfl

/-- No write depends on the overlay: under it a write is the write that it is without it (R40). -/
theorem busWrite_withBootMapped (s : State) (b : Bool) (a : Word) (v : Byte) :
    busWrite { s with bootMapped := b } a v = { busWrite s a v with bootMapped := b } := by
  unfold busWrite
  cases region a
  case rom0 => exact bankCommand_withBootMapped s b a v
  case romWindow => exact bankCommand_withBootMapped s b a v
  case eram => exact eramWrite_withBootMapped s b a v
  case io => exact ioWrite_withBootMapped s b a v
  all_goals rfl

/-- At PC = 0x0100 the overlay is unmapped, whether or not it was mapped (R41). -/
theorem unmapBoot_at (s : State) (h : s.cpu.pc = 0x0100) : unmapBoot s = { s with bootMapped := false } := by
  rw [unmapBoot, h]
  cases hm : s.bootMapped
  case true => rfl
  case false => exact congrArg (fun b => { s with bootMapped := b }) hm

theorem unmapBoot_elsewhere (s : State) (h : s.cpu.pc ≠ 0x0100) : unmapBoot s = s := by
  have away : (s.cpu.pc == 0x0100) = false := beq_eq_false_iff_ne.mpr h
  rw [unmapBoot, away, Bool.and_false]
  rfl

/-- Settles O53: the overlay's reads, the writes that do not see it, the check at the start of a step, and the cartridge's
bytes without it. -/
theorem bootOverlay : Obligations.BootOverlay := by
  refine ⟨fun s image joy a hm hi => ⟨busRead_overlay joy s image a hm hi, busRead_beyondOverlay joy s false a⟩,
    fun s a v => ⟨busWrite_boot s a v, busWrite_bootMapped s a v, (busWrite_withBootMapped s false a v).symm,
      fun h => busWrite_rom s a v (by omega)⟩, unmapBoot_at, unmapBoot_elsewhere, ?_⟩
  intro s joy a hm h
  rw [busRead_rom joy s a (by omega) (.inl hm), romRead_bank0 s a (by omega)]

end Sys2Proof.Proofs
end

section
/-! Proofs, family 20_memory.md: the load and the reset values. -/

namespace Sys2Proof.Proofs

open Sys2Proof.Machine Sys2Proof.Laws

/-! ### The load checks -/

/-- An image with an unknown type byte, or shorter than its declared size, does not load (20_memory.md R70). -/
theorem load_invalid (config : Config) (post : PostBoot) (ram : Memory) (image : List Byte)
    (boot : Option (Vector Byte 256)) (h : headerKind image = none ∨ image.length < declaredSize image) :
    load config post ram image boot = .error .invalidRom := by
  have rejected : loadCart image = .error .invalidRom := by
    unfold loadCart
    cases hk : headerKind image
    case none => rfl
    case some kind => exact if_pos (h.resolve_left (by rw [hk]; exact Option.some_ne_none kind))
  rw [load, rejected]

/-- The least size that a header can declare is 0x8000. -/
theorem declaredSize_ge (image : List Byte) : 0x8000 ≤ declaredSize image :=
  Nat.le_mul_of_pos_right _ (Nat.two_pow_pos _)

/-- The cartridge of an image, of the kind that its header names (R70). -/
def cartOf (image : List Byte) (kind : CartKind) : Cart :=
  { size := image.length, image := imageCells image 0, kind := kind, eramSize := headerEram image }

/-- An image that passes both checks loads as its cartridge. -/
theorem loadCart_valid (image : List Byte) (kind : CartKind) (hk : headerKind image = some kind)
    (hs : declaredSize image ≤ image.length) : loadCart image = .ok (cartOf image kind) := by
  rw [loadCart, hk]
  exact if_neg (Nat.not_lt.mpr hs)

theorem cartOf_byte (image : List Byte) (kind : CartKind) (o : Nat) (h : o < image.length) :
    (cartOf image kind).byte o = image[o] := by
  have cell := imageCells_lookup image 0 o h
  rw [Nat.zero_add] at cell
  rw [Cart.byte, cartOf, if_pos h]
  exact cell

/-! ### The storage at reset -/

/-- An IO cell is no RAM, whatever the size of ERAM. -/
theorem ioKey_not_ram (n k : Nat) (h1 : 0xFF00 ≤ k) (h2 : k < 0xFF80) : Memory.isRamKey n k = false := by
  by_contra hr
  have hio := isRamKey_not_io n k (Bool.not_eq_false _ ▸ hr)
  simp [Memory.isIoKey, h1, h2] at hio

/-- What an unlisted key reads as (70_reset_and_hazards.md R240). -/
theorem unlisted_eq (k : Nat) :
    Memory.unlisted k = if 0xFF00 ≤ k ∧ k < 0xFF80 then 0xFF else Config.resetRam k := by
  simp [Memory.unlisted, Memory.isIoKey]

/-- An IO cell holds 0xFF at reset, whatever RAM cells are given (R240). -/
theorem atReset_read_io (n : Nat) (ram : Memory) (k : Nat) (h1 : 0xFF00 ≤ k) (h2 : k < 0xFF80) :
    Memory.read (Memory.atReset n ram) k = 0xFF := by
  rw [atReset_read_other n ram k (ioKey_not_ram n k h1 h2), unlisted_eq, if_pos ⟨h1, h2⟩]

/-! ### The reset values -/

/-- Settles O60: the load checks, the cartridge that they give, the values of `POST_BOOT`'s default, the storage at reset, and
the fields in which the two reset forms differ. -/
theorem loadAndResetValues : Obligations.LoadAndResetValues := by
  refine ⟨rfl, fun config ram image => ⟨fun h post boot => load_invalid config post ram image boot h,
    fun h post boot => ?_, fun kind hk hs => ?_⟩⟩
  · have := declaredSize_ge image
    exact load_invalid config post ram image boot (.inr (by omega))
  · have cart := loadCart_valid image kind hk hs
    have loaded : load config PostBoot.default ram image none
        = .ok (resetNoBoot config PostBoot.default ram (cartOf image kind)) := by rw [load, cart]
    have f : PostBoot.default.flags.toByte = 0xB0 := by decide
    have bc : cat 0x00 0x13 = 0x0013 := by decide
    have de : cat 0x00 0xD8 = 0x00D8 := by decide
    have hl : cat 0x01 0x4D = 0x014D := by decide
    refine ⟨_, loaded,
      -- the cartridge
      rfl, rfl, cartOf_byte image kind, cartByte_past (cartOf image kind),
      -- the CPU and the interrupt registers
      rfl, f, bc, de, hl, rfl, rfl, rfl, rfl, rfl, rfl, rfl, rfl,
      -- the timer, the PPU's registers and P1
      rfl, rfl, rfl, rfl, rfl, rfl, rfl, rfl, rfl, rfl, rfl, rfl, rfl,
      -- the PPU's position and draw, the bank controller and the overlay
      rfl, rfl, rfl, rfl, rfl, rfl, rfl, rfl,
      -- the storage
      atReset_read_io _ ram, atReset_read_ram _ ram, unlisted_eq,
      -- the parameters and the outputs
      rfl, rfl, rfl, rfl, rfl, fun b => ?_⟩
    have booted : load config PostBoot.default ram image (some b)
        = .ok (resetWithBoot config PostBoot.default ram (cartOf image kind) b) := by rw [load, cart]
    exact ⟨_, booted, rfl, rfl, rfl, rfl, rfl, rfl, toByte_low _⟩

end Sys2Proof.Proofs
end

section
/-! Proofs, family 30_encoding.md: the encoder and the decoder are inverse, and the invalid bytes. -/

namespace Sys2Proof.Proofs

open Sys2Proof.Machine Sys2Proof.Laws

/-! ### The bytes of an encoded instruction decode to it -/

/-- The instruction that the first three bytes decode to, with zeros for the missing ones. -/
def windowOf (bytes : List Byte) : Instr :=
  decodeWindow (bytes.getD 0 0) (bytes.getD 1 0) (bytes.getD 2 0)

/-- `decode` answers the window's instruction as soon as that instruction's bytes are all there. -/
theorem decode_eq_windowOf (bytes : List Byte) (h : (windowOf bytes).length .one ≤ bytes.length) :
    decode bytes = .ok (windowOf bytes) := by
  match bytes with
  | [] => exact absurd h (by decide)
  | [op] =>
    by_cases hop : op = 0xCB
    · subst hop
      exact absurd h (by decide)
    · have main : windowOf [op] = decodeMain op 0 0 := if_neg hop
      rw [main] at h ⊢
      exact if_pos h
  | [_, _] => exact if_pos h
  | _ :: _ :: _ :: _ => rfl

/-- The encoder writes every byte that the decoder takes; for STOP it may take one less (45_system.md R200). -/
theorem length_le_encode (i : Instr) (stop : StopLength) : i.length stop ≤ (encode i).length := by
  cases i
  case stop => cases stop <;> decide
  all_goals exact Nat.le_refl _

/-- The bytes decode to the instruction whatever follows them: the first alone, or with its operand byte, or with both
(30_encoding.md R79). -/
inductive DecodesTo : List Byte → Instr → Prop
  | bare {op i} (h : ∀ b1 b2, decodeWindow op b1 b2 = i) : DecodesTo [op] i
  | byte {op b1 i} (h : ∀ b2, decodeWindow op b1 b2 = i) : DecodesTo [op, b1] i
  | word {op b1 b2 i} (h : decodeWindow op b1 b2 = i) : DecodesTo [op, b1, b2] i

theorem DecodesTo.windowOf_append {bytes : List Byte} {i : Instr} (h : DecodesTo bytes i) (rest : List Byte) :
    windowOf (bytes ++ rest) = i := by
  cases h with
  | bare h => exact h _ _
  | byte h => exact h _
  | word h => exact h

theorem DecodesTo.decode_append {bytes : List Byte} {i : Instr} (h : DecodesTo bytes i)
    (hlen : i.length .one ≤ bytes.length) (rest : List Byte) : decode (bytes ++ rest) = .ok i := by
  have window := h.windowOf_append rest
  rw [decode_eq_windowOf, window]
  rw [window, List.length_append]
  exact hlen.trans (Nat.le_add_right _ _)

/-- The 11 invalid bytes decode to themselves (R83). -/
theorem decodesTo_invalid (op : Byte) (h : op ∈ invalidBytes) : DecodesTo [op] (.invalid op) := by
  fin_cases h <;> exact .bare fun _ _ => rfl

/-- Form by form, the decoder's fields give the row whose bytes the encoder lists; a 16-bit operand is put together from the
two bytes that it was cut into. -/
theorem decodesTo_encode (i : Instr) (hwf : WellFormed i) (hcb : i ≠ .prefixCb) : DecodesTo (encode i) i := by
  induction i using casesByForm with
  | prefixCb => exact absurd rfl hcb
  | invalid op => exact decodesTo_invalid op (List.contains_iff_mem.mp hwf)
  -- the main table: no operand
  | ldRegReg x y | aluReg x y => cases x <;> cases y <;> exact .bare fun _ _ => rfl
  | ldRegMem x | ldMemReg x | ldAccMem x | ldMemAcc x | push x | pop x | aluMem x | incReg x | decReg x | incR16 x
  | decR16 x | addHl x | retCond x | rst x => cases x <;> exact .bare fun _ _ => rfl
  | ld_A_atC | ld_atC_A | ld_SP_HL | inc_atHL | dec_atHL | daa | cpl | scf | ccf | rlca | rrca | rla | rra | jp_HL | ret
  | reti | nop | halt | di | ei => exact .bare fun _ _ => rfl
  -- the main table: an operand byte
  | ldRegImm x n | aluImm x n | jrCond x n => cases x <;> exact .byte fun _ => rfl
  | ld_atHL_d8 n | ldh_A_ata8 n | ldh_ata8_A n | add_SP_e8 n | ld_HL_SPe8 n | jr_e8 n => exact .byte fun _ => rfl
  | stop => exact .byte fun _ => rfl
  -- the main table: an operand word
  | ldR16 x v | jpCond x v | callCond x v => cases x <;> exact .word (congrArg _ (cat_hi8_lo8 v))
  | ld_A_ata16 v | ld_ata16_A v | ld_ata16_SP v | jp_a16 v | call_a16 v => exact .word (congrArg _ (cat_hi8_lo8 v))
  -- the CB table
  | rotReg x r | bitReg x r | resReg x r | setReg x r => cases x <;> cases r <;> exact .byte fun _ => rfl
  | rotMem x | bitMem x | resMem x | setMem x => cases x <;> exact .byte fun _ => rfl

/-! ### The fields of a byte -/

/-- The byte of the three fields x, y and z (30_encoding.md R72). -/
def byteOf (x : Nat) (y z : Oct) : Byte := BitVec.ofNat 8 (x * 64 + y.toNat * 8 + z.toNat)

theorem toNat_octOf (n : Nat) (h : n < 8) : (octOf n).toNat = n := by
  interval_cases n <;> rfl

/-- A byte is made of its fields. -/
theorem byteOf_fields (b : Byte) : byteOf (fieldX b) (fieldY b) (fieldZ b) = b := by
  have y := toNat_octOf (b.toNat / 8 % 8) (Nat.mod_lt _ (by decide))
  have z := toNat_octOf (b.toNat % 8) (Nat.mod_lt _ (by decide))
  have := b.isLt
  apply BitVec.eq_of_toNat_eq
  rw [byteOf, fieldX, fieldY, fieldZ, y, z, BitVec.toNat_ofNat]
  omega

theorem fieldX_lt (b : Byte) : fieldX b < 4 := by
  have := b.isLt
  unfold fieldX
  omega

/-! ### The rows of the CB table (R82) -/

theorem encode_rotR8 (y z : Oct) : encode (.rotR8 (rotOf y) (r8Of z)) = [0xCB, byteOf 0 y z] := by
  cases y <;> cases z <;> rfl

theorem encode_bitR8 (y z : Oct) : encode (.bitR8 y (r8Of z)) = [0xCB, byteOf 1 y z] := by
  cases y <;> cases z <;> rfl

theorem encode_resR8 (y z : Oct) : encode (.resR8 y (r8Of z)) = [0xCB, byteOf 2 y z] := by
  cases y <;> cases z <;> rfl

theorem encode_setR8 (y z : Oct) : encode (.setR8 y (r8Of z)) = [0xCB, byteOf 3 y z] := by
  cases y <;> cases z <;> rfl

/-- The CB table is complete: every second byte is that of its row. -/
theorem encode_decodeCb (b : Byte) : encode (decodeCb b) = [0xCB, b] := by
  have hx := fieldX_lt b
  conv_rhs => rw [← byteOf_fields b]
  unfold decodeCb
  generalize fieldX b = x at hx ⊢
  match x, hx with
  | 0, _ => exact encode_rotR8 _ _
  | 1, _ => exact encode_bitR8 _ _
  | 2, _ => exact encode_resR8 _ _
  | 3, _ => exact encode_setR8 _ _

/-- The escape byte and one byte more are a whole instruction (45_system.md R203). -/
theorem decode_escape (b : Byte) (rest : List Byte) : decode (0xCB :: b :: rest) = .ok (decodeCb b) := by
  have len : (decodeCb b).length .one ≤ [0xCB, b].length := encode_decodeCb b ▸ length_le_encode (decodeCb b) .one
  exact DecodesTo.decode_append (.byte fun _ => rfl) len rest

/-- Settles O2: an instruction's bytes decode to it, and they are as many as its decoding needs. -/
theorem decodeEncodeRoundTrip : Obligations.DecodeEncodeRoundTrip :=
  ⟨fun i rest hwf hcb => (decodesTo_encode i hwf hcb).decode_append (length_le_encode i .one) rest, rfl, decode_escape⟩

/-! ### The rows of the main table (R81)

Column by column of the decoder, each row with what it takes after its first byte: nothing, a byte or a word (R79). -/

/-- A well-formed instruction whose bytes are the first of the three. -/
structure RowOf (op b1 b2 : Byte) (i : Instr) : Prop where
  bytes : encode i <+: [op, b1, b2]
  wellFormed : WellFormed i

section
variable {op b1 b2 : Byte} {i : Instr}

/-- An invalid instruction is one byte; every other is well-formed. -/
theorem wellFormed_of_length (h : (encode i).length ≠ 1) : WellFormed i := by
  cases i
  case invalid op => exact absurd rfl h
  all_goals rfl

theorem RowOf.bare (h : encode i = [op]) (hwf : WellFormed i) : RowOf op b1 b2 i :=
  ⟨⟨[b1, b2], by rw [h]; rfl⟩, hwf⟩

theorem RowOf.byte (h : encode i = [op, b1]) : RowOf op b1 b2 i :=
  ⟨⟨[b2], by rw [h]; rfl⟩, wellFormed_of_length (by simp [h])⟩

theorem RowOf.word (h : encode i = [op, lo8 (cat b2 b1), hi8 (cat b2 b1)]) : RowOf op b1 b2 i :=
  ⟨⟨[], by rw [h, lo8_cat, hi8_cat]; rfl⟩, wellFormed_of_length (by simp [h])⟩

end

section
variable (y z : Oct) (b1 b2 : Byte)

theorem row_decodeX0Z0 (h : decodeX0Z0 y b1 b2 ≠ .stop) : RowOf (byteOf 0 y .i0) b1 b2 (decodeX0Z0 y b1 b2) := by
  cases y
  case i0 => exact .bare rfl rfl
  case i1 => exact .word rfl
  case i2 => exact absurd rfl h
  all_goals exact .byte rfl

theorem row_decodeX0Z1 : RowOf (byteOf 0 y .i1) b1 b2 (decodeX0Z1 y b1 b2) := by
  cases y
  case i0 | i2 | i4 | i6 => exact .word rfl
  all_goals exact .bare rfl rfl

theorem row_decodeX0Z2 : RowOf (byteOf 0 y .i2) b1 b2 (decodeX0Z2 y) := by
  cases y <;> exact .bare rfl rfl

theorem row_decodeX0Z3 : RowOf (byteOf 0 y .i3) b1 b2 (decodeX0Z3 y) := by
  cases y <;> exact .bare rfl rfl

theorem row_incR8 : RowOf (byteOf 0 y .i4) b1 b2 (.incR8 (r8Of y)) := by
  cases y <;> exact .bare rfl rfl

theorem row_decR8 : RowOf (byteOf 0 y .i5) b1 b2 (.decR8 (r8Of y)) := by
  cases y <;> exact .bare rfl rfl

theorem row_ldR8Imm : RowOf (byteOf 0 y .i6) b1 b2 (.ldR8Imm (r8Of y) b1) := by
  cases y <;> exact .byte rfl

theorem row_decodeX0Z7 : RowOf (byteOf 0 y .i7) b1 b2 (decodeX0Z7 y) := by
  cases y <;> exact .bare rfl rfl

theorem row_decodeX0 (h : decodeX0 y z b1 b2 ≠ .stop) : RowOf (byteOf 0 y z) b1 b2 (decodeX0 y z b1 b2) := by
  cases z
  exacts [row_decodeX0Z0 y b1 b2 h, row_decodeX0Z1 y b1 b2, row_decodeX0Z2 y b1 b2, row_decodeX0Z3 y b1 b2,
    row_incR8 y b1 b2, row_decR8 y b1 b2, row_ldR8Imm y b1 b2, row_decodeX0Z7 y b1 b2]

theorem row_ldR8 : RowOf (byteOf 1 y z) b1 b2 (.ldR8 (r8Of y) (r8Of z)) := by
  cases y <;> cases z <;> exact .bare rfl rfl

theorem row_aluR8 : RowOf (byteOf 2 y z) b1 b2 (.aluR8 (aluOf y) (r8Of z)) := by
  cases y <;> cases z <;> exact .bare rfl rfl

theorem row_decodeX3Z0 : RowOf (byteOf 3 y .i0) b1 b2 (decodeX3Z0 y b1) := by
  cases y
  case i4 | i5 | i6 | i7 => exact .byte rfl
  all_goals exact .bare rfl rfl

theorem row_decodeX3Z1 : RowOf (byteOf 3 y .i1) b1 b2 (decodeX3Z1 y) := by
  cases y <;> exact .bare rfl rfl

theorem row_decodeX3Z2 : RowOf (byteOf 3 y .i2) b1 b2 (decodeX3Z2 y b1 b2) := by
  cases y
  case i4 | i6 => exact .bare rfl rfl
  all_goals exact .word rfl

theorem row_decodeX3Z3 : RowOf (byteOf 3 y .i3) b1 b2 (decodeX3Z3 (byteOf 3 y .i3) y b1 b2) := by
  cases y
  case i0 => exact .word rfl
  all_goals exact .bare rfl rfl

theorem row_decodeX3Z4 : RowOf (byteOf 3 y .i4) b1 b2 (decodeX3Z4 (byteOf 3 y .i4) y b1 b2) := by
  cases y
  case i0 | i1 | i2 | i3 => exact .word rfl
  all_goals exact .bare rfl rfl

theorem row_decodeX3Z5 : RowOf (byteOf 3 y .i5) b1 b2 (decodeX3Z5 (byteOf 3 y .i5) y b1 b2) := by
  cases y
  case i1 => exact .word rfl
  all_goals exact .bare rfl rfl

theorem row_aluImm : RowOf (byteOf 3 y .i6) b1 b2 (.aluImm (aluOf y) b1) := by
  cases y <;> exact .byte rfl

theorem row_rst : RowOf (byteOf 3 y .i7) b1 b2 (.rst y) := by
  cases y <;> exact .bare rfl rfl

theorem row_decodeX3 : RowOf (byteOf 3 y z) b1 b2 (decodeX3 (byteOf 3 y z) y z b1 b2) := by
  cases z
  exacts [row_decodeX3Z0 y b1 b2, row_decodeX3Z1 y b1 b2, row_decodeX3Z2 y b1 b2, row_decodeX3Z3 y b1 b2,
    row_decodeX3Z4 y b1 b2, row_decodeX3Z5 y b1 b2, row_aluImm y b1 b2, row_rst y b1 b2]

end

/-- The main table, by the quadrant x. -/
theorem row_decodeMain (op b1 b2 : Byte) (h : decodeMain op b1 b2 ≠ .stop) : RowOf op b1 b2 (decodeMain op b1 b2) := by
  have hx := fieldX_lt op
  have hop := byteOf_fields op
  unfold decodeMain at h ⊢
  generalize fieldX op = x at *
  generalize fieldY op = y at *
  generalize fieldZ op = z at *
  subst hop
  match x, hx with
  | 0, _ => exact row_decodeX0 y z b1 b2 h
  | 1, _ => exact row_ldR8 y z b1 b2
  | 2, _ => exact row_aluR8 y z b1 b2
  | 3, _ => exact row_decodeX3 y z b1 b2

/-- Every window but STOP's is a row of its first byte. -/
theorem row_decodeWindow (op b1 b2 : Byte) (h : decodeWindow op b1 b2 ≠ .stop) :
    RowOf op b1 b2 (decodeWindow op b1 b2) := by
  by_cases hop : op = 0xCB
  · subst hop
    exact .byte (encode_decodeCb b1)
  · have main : decodeWindow op b1 b2 = decodeMain op b1 b2 := if_neg hop
    rw [main] at h ⊢
    exact row_decodeMain op b1 b2 h

/-- Settles O3, by the rows of both tables. -/
theorem encodeReproducesBytes : Obligations.EncodeReproducesBytes :=
  fun op b1 b2 h => (row_decodeWindow op b1 b2 h).bytes

/-! ### The invalid bytes (R83) -/

/-- An invalid instruction's byte is the byte it was decoded from and one of the 11; and each of the 11 decodes to its own. -/
theorem decodeWindow_eq_invalid_iff (op b1 b2 b : Byte) :
    decodeWindow op b1 b2 = .invalid b ↔ b = op ∧ op ∈ invalidBytes := by
  constructor
  · intro h
    have row : RowOf op b1 b2 (.invalid b) := h ▸ row_decodeWindow op b1 b2 (by rw [h]; exact nofun)
    obtain rfl : b = op := (List.cons_prefix_cons.mp row.bytes).1
    exact ⟨rfl, List.contains_iff_mem.mp row.wellFormed⟩
  · rintro ⟨rfl, hb⟩
    exact (decodesTo_invalid b hb).windowOf_append [b1, b2]

/-- Settles O4: both directions of the decoder, and the fault that the instruction is. -/
theorem invalidBytesExactly : Obligations.InvalidBytesExactly :=
  ⟨decodeWindow_eq_invalid_iff, fun _ _ => rfl⟩

/-! ### Known words -/

/-- Settles O1: each word, evaluated. -/
theorem knownWordsDecode : Obligations.KnownWordsDecode :=
  ⟨rfl, rfl, rfl, rfl, rfl, rfl, rfl, rfl, rfl, rfl, rfl, rfl, rfl, rfl, rfl, rfl, rfl, rfl⟩

end Sys2Proof.Proofs
end

section
/-! Proofs, family 40_load.md: the loads, the stores, PUSH and POP. -/

namespace Sys2Proof.Proofs

open Sys2Proof.Machine Sys2Proof.Laws

/-! ### Loads of one register -/

/-- `LDH A,(a8)`, with its address as R79 writes it. -/
theorem exec_ldh_A_ata8 (n : Byte) (s : State) :
    exec (.ldh_A_ata8 n) s = done 12 (s.setReg .a (s.readData (BitVec.ofNat 16 (0xFF00 + n.toNat)))) := by
  rw [← highPage_eq]; rfl

/-- `LD A,(C)`, with its address as R79 writes it. -/
theorem exec_ld_A_atC (s : State) :
    exec .ld_A_atC s = done 8 (s.setReg .a (s.readData (BitVec.ofNat 16 (0xFF00 + s.cpu.c.toNat)))) := by
  rw [← highPage_eq]; rfl

/-- Settles O18: each of these loads is one register write. -/
theorem registerLoads : Obligations.RegisterLoads :=
  ⟨fun dst r s => ⟨_, exec_ldRegReg dst r s, regWritten_setReg s dst (s.reg r) 4⟩,
    fun dst s => ⟨_, exec_ldRegMem dst s, regWritten_setReg s dst (s.readData s.hl) 8⟩,
    fun dst n s => ⟨_, exec_ldRegImm dst n s, regWritten_setReg s dst n 8⟩,
    fun s => ⟨_, exec_ldAccMem .bc s, regWritten_setReg s .a (s.readData s.bc) 8⟩,
    fun s => ⟨_, exec_ldAccMem .de s, regWritten_setReg s .a (s.readData s.de) 8⟩,
    fun a s => ⟨_, rfl, regWritten_setReg s .a (s.readData a) 16⟩,
    fun n s => ⟨_, exec_ldh_A_ata8 n s, regWritten_setReg s .a _ 12⟩,
    fun s => ⟨_, exec_ld_A_atC s, regWritten_setReg s .a _ 8⟩⟩

/-! ### Accesses that move HL -/

/-- A change of the CPU alone, with its cycles. -/
theorem cpuBecomes_set (s : State) (c : Cpu) (n : Nat) : CpuBecomes c n s { s with cpu := c, cycles := n } :=
  ⟨rfl, sameOutside_cpu s c n, rfl⟩

@[simp] theorem busWrite_hl (s : State) (a : Word) (v : Byte) : (busWrite s a v).hl = s.hl := by
  rw [State.hl, busWrite_cpu]; rfl

/-- One store, and HL. -/
theorem storeDone_setHl (s : State) (a : Word) (v : Byte) (w : Word) (n : Nat) :
    StoreDone a v { s.cpu with h := hi8 w, l := lo8 w } n s (((busWrite s a v).setHl w).took n) := by
  simp only [State.took, State.setHl, busWrite_cpu]
  exact storeDone_busWrite s a v _ n

/-- `LD (HL+),A`: the store keeps HL, so HL moves from its old value. -/
theorem exec_ld_atHLinc_A (s : State) :
    exec .ld_atHLinc_A s = done 8 ((busWrite s s.hl s.cpu.a).setHl (s.hl + 1)) :=
  congrArg (fun hl => done 8 ((busWrite s s.hl s.cpu.a).setHl (hl + 1))) (busWrite_hl s s.hl s.cpu.a)

/-- `LD (HL-),A`: the store keeps HL, so HL moves from its old value. -/
theorem exec_ld_atHLdec_A (s : State) :
    exec .ld_atHLdec_A s = done 8 ((busWrite s s.hl s.cpu.a).setHl (s.hl - 1)) :=
  congrArg (fun hl => done 8 ((busWrite s s.hl s.cpu.a).setHl (hl - 1))) (busWrite_hl s s.hl s.cpu.a)

/-- Settles O19: a load changes the CPU alone, in A and HL; a store is one bus write, beside which HL moves. -/
theorem accumulatorAccessesThatMoveHl : Obligations.AccumulatorAccessesThatMoveHl :=
  fun s => ⟨⟨_, exec_ldAccMem .hlInc s, cpuBecomes_set s _ 8, setHl_hl _ (s.hl + 1)⟩,
    ⟨_, exec_ldAccMem .hlDec s, cpuBecomes_set s _ 8, setHl_hl _ (s.hl - 1)⟩,
    ⟨_, exec_ld_atHLinc_A s, storeDone_setHl s s.hl s.cpu.a (s.hl + 1) 8, setHl_hl _ (s.hl + 1)⟩,
    ⟨_, exec_ld_atHLdec_A s, storeDone_setHl s s.hl s.cpu.a (s.hl - 1) 8, setHl_hl _ (s.hl - 1)⟩⟩

/-! ### Stores -/

/-- `LDH (a8),A`, with its address as R79 writes it. -/
theorem exec_ldh_ata8_A (n : Byte) (s : State) :
    exec (.ldh_ata8_A n) s = done 12 (busWrite s (BitVec.ofNat 16 (0xFF00 + n.toNat)) s.cpu.a) := by
  rw [← highPage_eq]; rfl

/-- `LD (C),A`, with its address as R79 writes it. -/
theorem exec_ld_atC_A (s : State) :
    exec .ld_atC_A s = done 8 (busWrite s (BitVec.ofNat 16 (0xFF00 + s.cpu.c.toNat)) s.cpu.a) := by
  rw [← highPage_eq]; rfl

@[simp] theorem write16_cpu (s : State) (a v : Word) : (write16 s a v).cpu = s.cpu := by
  simp [write16]

/-- A word's two stores: the low byte at the address, then the high byte at the next (20_memory.md R60). -/
theorem twoBytesStored_write16 (s : State) (a v : Word) (n : Nat) :
    TwoBytesStored a (lo8 v) (a + 1) (hi8 v) s ((write16 s a v).took n) :=
  twoBytesStored_busWrite s a (a + 1) (lo8 v) (hi8 v) (write16 s a v).cpu n (mirrored_succ a).symm

/-- Settles O20: each form is one store and nothing else, but for the two stores of SP. -/
theorem memoryStores : Obligations.MemoryStores :=
  ⟨fun r s => ⟨_, exec_ldMemReg r s, storeDone_took s s.hl (s.reg r) 8⟩,
    fun n s => ⟨_, rfl, storeDone_took s s.hl n 12⟩,
    fun s => ⟨_, exec_ldMemAcc .bc s, storeDone_took s s.bc s.cpu.a 8⟩,
    fun s => ⟨_, exec_ldMemAcc .de s, storeDone_took s s.de s.cpu.a 8⟩,
    fun a s => ⟨_, rfl, storeDone_took s a s.cpu.a 16⟩,
    fun n s => ⟨_, exec_ldh_ata8_A n s, storeDone_took s _ s.cpu.a 12⟩,
    fun s => ⟨_, exec_ld_atC_A s, storeDone_took s _ s.cpu.a 8⟩,
    fun a s => ⟨_, rfl, write16_cpu s a s.cpu.sp, rfl, twoBytesStored_write16 s a s.cpu.sp 20⟩⟩

/-! ### Loads of a pair -/

/-- Settles O21: both forms are one pair write. -/
theorem pairLoads : Obligations.PairLoads :=
  ⟨fun p v s => ⟨_, exec_ldR16 p v s, pairFlagsWritten_setR16 s p v 12⟩,
    fun s => ⟨_, rfl, pairFlagsWritten_setR16 s .sp s.hl 8⟩⟩

/-! ### PUSH and POP -/

/-- Writing PC, IME and `ei_pending` back as they are changes nothing. -/
theorem setPc_setIme_self (s : State) : (s.setPc s.cpu.pc).setIme s.cpu.ime s.cpu.eiPending = s := rfl

/-- A push and nothing else. -/
theorem wordPushed_took (s : State) (v : Word) (n : Nat) : WordPushed v s ((push16 s v).took n) := by
  have h := wordPushed_push16 s v (push16 s v).cpu.pc (push16 s v).cpu.ime (push16 s v).cpu.eiPending n
  rwa [setPc_setIme_self] at h

theorem push16_sameControl (s : State) (v : Word) (n : Nat) : SameControl s ((push16 s v).took n) := by
  simp [SameControl]

/-- Settles O22: PUSH is the push of its pair, and F's low four bits are zero. -/
theorem pushEffect : Obligations.PushEffect := by
  intro p s
  refine ⟨_, exec_push p s, ?_, toByte_low _, by simp, push16_sameControl s _ 16, rfl⟩
  cases p <;> exact wordPushed_took s _ 16

@[simp] theorem hi8_popValue (s : State) : hi8 (popValue s) = s.readByte 4 (s.cpu.sp + 1) := hi8_cat _ _

@[simp] theorem lo8_popValue (s : State) : lo8 (popValue s) = s.readByte 3 s.cpu.sp := lo8_cat _ _

/-- Settles O23: POP writes the two bytes of the popped word and SP, and F keeps the high four bits of its byte. -/
theorem popEffect : Obligations.PopEffect := by
  unfold Obligations.PopEffect
  simp only [← hi8_popValue, ← lo8_popValue]
  exact ⟨fun s => ⟨_, exec_pop .bc s, cpuBecomes_set s _ 12⟩, fun s => ⟨_, exec_pop .de s, cpuBecomes_set s _ 12⟩,
    fun s => ⟨_, exec_pop .hl s, cpuBecomes_set s _ 12⟩,
    fun s => ⟨_, exec_pop .af s, cpuBecomes_set s _ 12, toByte_ofByte (lo8 (popValue s))⟩⟩

end Sys2Proof.Proofs
end

section
/-! Proofs, family 41_alu8.md: 8-bit arithmetic and logic, and the decimal adjustment. -/

namespace Sys2Proof.Proofs

open Sys2Proof.Machine Sys2Proof.Laws

/-! ### Replacing a byte and the flags -/

/-- Replacing a register's byte and the flags writes those alone. -/
theorem updateReg_written (r : Reg) (s : State) {f : Byte → ByteResult} {x : ByteResult} (n : Nat) (h : f (s.reg r) = x) :
    ∃ t, updateReg r f n s = .next t ∧ RegFlagsWritten r x.value x.flags n s t :=
  h ▸ ⟨_, rfl, regFlagsWritten_set s r _ _ n⟩

/-- Replacing the byte at HL and the flags is one store, beside which the flags change. -/
theorem updateMem_stored (s : State) {f : Byte → ByteResult} {x : ByteResult} (n : Nat) (h : f (s.readData s.hl) = x) :
    ∃ t, updateMem f n s = .next t ∧ StoreDone s.hl x.value { s.cpu with flags := x.flags } n s t :=
  h ▸ ⟨_, rfl, storeDone_setFlags s s.hl _ _ n⟩

/-! ### The three forms of an ALU operation (R113) -/

/-- What holds of the shared operation on every operand byte holds of its three forms. -/
theorem forAluForms_of_aluWith {op : AluOp} {Q : Byte → Nat → State → State → Prop}
    (h : ∀ b n s, ∃ t, aluWith op b n s = .next t ∧ Q b n s t) :
    ForAluForms op (fun i b n s => ∃ t, exec i s = .next t ∧ Q b n s t) := by
  intro s
  simp only [exec_aluReg, exec_aluMem, exec_aluImm]
  exact ⟨fun r => h (s.reg r) 4 s, h (s.readData s.hl) 8 s, fun n => h n 8 s⟩

/-- An ALU operation writes the accumulator and the flags as `alu` gives them. -/
theorem forAluForms_of_alu {op : AluOp} {v : Byte → State → Byte} {f : Byte → State → Flags}
    (h : ∀ b s, alu op s.cpu.flags s.cpu.a b = ⟨v b s, f b s⟩) :
    ForAluForms op (fun i b n s => ∃ t, exec i s = .next t ∧ RegFlagsWritten .a (v b s) (f b s) n s t) :=
  forAluForms_of_aluWith fun b n s => updateReg_written .a s (f := fun a => alu op s.cpu.flags a b) n (h b s)

/-- CP writes back the accumulator as it is, so it writes the flags alone (R121). -/
theorem aluWith_cp (b : Byte) (n : Nat) (s : State) :
    aluWith .cp b n s = done n (s.setFlags (subBytes s.cpu.a b false).flags) :=
  congrArg (fun t : State => done n (t.setFlags (subBytes s.cpu.a b false).flags)) (setReg_self s .a)

/-- The difference without a borrow in (R116, R121). -/
theorem subBytes_false (a b : Byte) : subBytes a b false =
    { value := BitVec.ofInt 8 (a.toNat - b.toNat)
      flags := { z := decide (((a.toNat : Int) - b.toNat) % 256 = 0), n := true
                 h := decide (a.toNat % 16 < b.toNat % 16), c := decide (a.toNat < b.toNat) } } := by
  simpa using subBytes_eq a b false

/-- Settles O25: both are the sum of `addBytes`, ADD without a carry in. -/
theorem addAndAdc : Obligations.AddAndAdc :=
  ⟨forAluForms_of_alu fun b s => addBytes_eq s.cpu.a b false,
    forAluForms_of_alu fun b s => addBytes_eq s.cpu.a b s.cpu.flags.c⟩

/-- Settles O26: all three are the difference of `subBytes`, SUB and CP without a borrow in. -/
theorem subSbcAndCp : Obligations.SubSbcAndCp :=
  ⟨forAluForms_of_alu fun b s => subBytes_false s.cpu.a b,
    forAluForms_of_alu fun b s => subBytes_eq s.cpu.a b s.cpu.flags.c,
    forAluForms_of_aluWith fun b n s => ⟨_, aluWith_cp b n s,
      subBytes_false s.cpu.a b ▸ flagsWritten_set s (subBytes s.cpu.a b false).flags n⟩⟩

/-- Settles O27: all three are `logicByte` of the bitwise result. -/
theorem andXorAndOr : Obligations.AndXorAndOr :=
  ⟨forAluForms_of_alu fun _ _ => rfl, forAluForms_of_alu fun _ _ => rfl, forAluForms_of_alu fun _ _ => rfl⟩

/-! ### INC and DEC of a byte -/

/-- Settles O28: a register or the byte at HL is replaced by `incByte` or `decByte` of it. -/
theorem incAndDecByte : Obligations.IncAndDecByte := by
  unfold Obligations.IncAndDecByte
  simp only [exec_incReg, exec_decReg]
  exact ⟨fun r s => updateReg_written r s 4 (incByte_eq s.cpu.flags (s.reg r)),
    fun r s => updateReg_written r s 4 (decByte_eq s.cpu.flags (s.reg r)),
    fun s => updateMem_stored s 12 (incByte_eq s.cpu.flags (s.readData s.hl)),
    fun s => updateMem_stored s 12 (decByte_eq s.cpu.flags (s.readData s.hl))⟩

/-! ### DAA (R150) -/

/-- Settles O29: the accumulator is replaced by `daa` of it. -/
theorem daaEffect : Obligations.DaaEffect :=
  ⟨rfl, fun _ => rfl, fun s => updateReg_written .a s 4 (daa_eq s.cpu.flags s.cpu.a)⟩

/-! ### Decimal digits in a byte -/

/-- A number's decimal digits as hexadecimal digits: the last in the low nibble, the others above it. -/
def bcdNat (x : Nat) : Nat :=
  x / 10 * 16 + x % 10

theorem bcdNat_mod_16 (x : Nat) : bcdNat x % 16 = x % 10 := by
  unfold bcdNat; omega

theorem bcdNat_lt_iff (x y : Nat) : bcdNat x < bcdNat y ↔ x < y := by
  unfold bcdNat; omega

theorem bcdNat_eq_zero_iff (x : Nat) : bcdNat x = 0 ↔ x = 0 := by
  unfold bcdNat; omega

theorem bcdNat_lt {x : Nat} (h : x < 100) : bcdNat x < 0xA0 := by
  unfold bcdNat; omega

/-- A decimal sum is the hexadecimal one with 6 for a carry between the digits. -/
theorem bcdNat_add (x y : Nat) :
    bcdNat (x + y) = bcdNat x + bcdNat y + (if 10 ≤ x % 10 + y % 10 then 0x06 else 0) := by
  unfold bcdNat; split <;> omega

/-- Dropping a hundred is adding 0x60 modulo 256. -/
theorem bcdNat_mod_100 {z : Nat} (h : z < 200) :
    bcdNat (z % 100) = (bcdNat z + (if 100 ≤ z then 0x60 else 0)) % 256 := by
  unfold bcdNat; split <;> omega

/-- A decimal difference modulo 100 is the hexadecimal one modulo 256, less 0x60 for a borrow and 6 for a borrow between the
digits. -/
theorem bcdNat_sub {x y : Nat} (hx : x < 100) (hy : y < 100) :
    bcdNat ((x + 100 - y) % 100) = ((((bcdNat x : Int) - bcdNat y) % 256).toNat + 512
      - (if x < y then 0x60 else 0) - (if x % 10 < y % 10 then 0x06 else 0)) % 256 := by
  unfold bcdNat; split <;> split <;> omega

/-- Where DAA adds 0x60: the hexadecimal sum passes 0x99 just when the decimal one passes 99. -/
theorem bcdNat_add_high {x y : Nat} (hx : x < 100) (hy : y < 100) :
    (255 < bcdNat x + bcdNat y ∨ 0x99 < (bcdNat x + bcdNat y) % 256) ↔ 100 ≤ x + y := by
  have digits : x / 10 + y / 10 ≤ (x + y) / 10 := Nat.div_add_div_le_add_div
  have decimal : 0x99 < bcdNat x + bcdNat y ↔ 100 ≤ x + y := by unfold bcdNat; omega
  have := bcdNat_lt hx
  have := bcdNat_lt hy
  omega

/-- Where DAA adds 6: the half carry, or a low nibble above 9, just when the last digits carry. -/
theorem bcdNat_add_low (x y : Nat) :
    (15 < x % 10 + y % 10 ∨ 9 < (bcdNat x + bcdNat y) % 16) ↔ 10 ≤ x % 10 + y % 10 := by
  unfold bcdNat; omega

/-! ### DAA after an addition and after a subtraction -/

/-- The byte of a number's two decimal digits. -/
def bcd (x : Nat) : Byte :=
  BitVec.ofNat 8 (bcdNat x)

theorem bcd_toNat {x : Nat} (h : x < 100) : (bcd x).toNat = bcdNat x :=
  Nat.mod_eq_of_lt ((bcdNat_lt h).trans (by decide))

/-- DAA after the sum of two decimal bytes: the decimal sum, with its carry. -/
theorem daa_addBytes_bcd {x y : Nat} (hx : x < 100) (hy : y < 100) :
    daa (addBytes (bcd x) (bcd y) false).flags (addBytes (bcd x) (bcd y) false).value =
      { value := bcd ((x + y) % 100)
        flags := { z := decide ((x + y) % 100 = 0), n := false, h := false, c := decide (x + y ≥ 100) } } := by
  have sum : bcdNat ((x + y) % 100) = ((bcdNat x + bcdNat y) % 256 + (if 100 ≤ x + y then 0x60 else 0)
      + (if 10 ≤ x % 10 + y % 10 then 0x06 else 0)) % 256 := by
    rw [bcdNat_mod_100 (by omega), bcdNat_add]; omega
  rw [addBytes_eq, daa_eq, bcd_toNat hx, bcd_toNat hy]
  simp [bcd, bcdNat_mod_16, bcdNat_eq_zero_iff, bcdNat_add_low, bcdNat_add_high hx hy, ← sum, ← Bool.decide_or]

/-- DAA after the difference of two decimal bytes: the decimal difference, with its borrow. -/
theorem daa_subBytes_bcd {x y : Nat} (hx : x < 100) (hy : y < 100) :
    daa (subBytes (bcd x) (bcd y) false).flags (subBytes (bcd x) (bcd y) false).value =
      { value := bcd ((x + 100 - y) % 100)
        flags := { z := decide (x = y), n := true, h := false, c := decide (x < y) } } := by
  have zero : (x + 100 - y) % 100 = 0 ↔ x = y := by omega
  rw [subBytes_false, daa_eq, bcd_toNat hx, bcd_toNat hy]
  simp [bcd, bcdNat_mod_16, bcdNat_lt_iff, bcdNat_eq_zero_iff, ← bcdNat_sub hx hy, zero]

/-- An ALU operation with an immediate byte, then DAA: the accumulator and the flags as DAA gives them. -/
theorem daa_after_aluImm (op : AluOp) (b : Byte) {a : Byte} {s : State} {x : ByteResult} (ha : s.cpu.a = a)
    (h : daa (alu op s.cpu.flags a b).flags (alu op s.cpu.flags a b).value = x) :
    ∃ t u, exec (Instr.aluImm op b) s = .next t ∧ exec .daa t = .next u ∧ u.cpu.a = x.value ∧ u.cpu.flags = x.flags := by
  subst ha h
  exact ⟨_, _, exec_aluImm op b s, rfl, rfl, rfl⟩

/-- Settles O30: DAA after the sum and after the difference of two decimal bytes. -/
theorem daaCorrectsBcdArithmetic : Obligations.DaaCorrectsBcdArithmetic := by
  intro x y s hx hy ha
  constructor
  · obtain ⟨t, u, ht, hu, hv, hf⟩ := daa_after_aluImm .add (bcd y) ha (daa_addBytes_bcd hx hy)
    refine ⟨t, u, ht, hu, ?_, congrArg Flags.c hf, congrArg Flags.z hf⟩
    rw [hv, bcd_toNat (by omega), bcdNat]; omega
  · obtain ⟨t, u, ht, hu, hv, hf⟩ := daa_after_aluImm .sub (bcd y) ha (daa_subBytes_bcd hx hy)
    refine ⟨t, u, ht, hu, ?_, congrArg Flags.c hf, congrArg Flags.z hf⟩
    rw [hv, bcd_toNat (by omega), bcdNat]; omega

/-! ### CPL, SCF and CCF -/

/-- Settles O31: CPL writes the accumulator and the flags, SCF and CCF the flags alone. -/
theorem cplScfAndCcf : Obligations.CplScfAndCcf :=
  ⟨rfl, rfl, rfl, fun _ => ⟨rfl, rfl, rfl⟩, fun s =>
    ⟨⟨_, rfl, BitVec.xor_allOnes (x := s.cpu.a) ▸ regFlagsWritten_set s .a _ _ 4⟩,
      ⟨_, rfl, flagsWritten_set s _ 4⟩, ⟨_, rfl, flagsWritten_set s _ 4⟩⟩⟩

end Sys2Proof.Proofs
end

section
/-! Proofs, family 42_alu16.md: INC, DEC and ADD on pairs, and the signed offset from SP. -/

namespace Sys2Proof.Proofs

open Sys2Proof.Machine Sys2Proof.Laws

/-! ### A pair and the flags from one result -/

/-- Writing the two parts of a 16-bit result, with that result in plain numbers. -/
theorem wordResult_written (p : R16) (s : State) (n : Nat) {r x : WordResult} (h : r = x) :
    ∃ t, done n ((s.setR16 p r.value).setFlags r.flags) = .next t ∧ PairFlagsWritten p x.value x.flags n s t :=
  h ▸ ⟨_, rfl, pairFlagsWritten_setFlags s p r.value r.flags n⟩

/-! ### INC, DEC and ADD on pairs -/

/-- One more, modulo 2^16 (R154). -/
theorem word_add_one (v : Word) : v + 1 = BitVec.ofNat 16 (v.toNat + 1) :=
  BitVec.add_def v 1

/-- One less, modulo 2^16 (R155). -/
theorem word_sub_one (v : Word) : v - 1 = BitVec.ofInt 16 (v.toNat - 1) := by
  apply BitVec.eq_of_toInt_eq
  rw [BitVec.toInt_sub, BitVec.toInt_ofInt, BitVec.toInt_eq_toNat_bmod]
  simp

/-- Settles O32: INC and DEC are one pair write, and ADD writes HL and the flags as `addWords` gives them. -/
theorem pairArithmetic : Obligations.PairArithmetic := by
  unfold Obligations.PairArithmetic
  simp only [exec_incR16, exec_decR16, exec_addHl, ← word_add_one, ← word_sub_one]
  exact ⟨fun p s => ⟨_, rfl, pairFlagsWritten_setR16 s p (s.r16 p + 1) 8⟩,
    fun p s => ⟨_, rfl, pairFlagsWritten_setR16 s p (s.r16 p - 1) 8⟩,
    fun p s => wordResult_written .hl s 8 (addWords_eq s.cpu.flags s.hl (s.r16 p))⟩

/-! ### The signed offset from SP -/

/-- Settles O33: both forms write the result of `addSigned` from SP, one to SP and one to HL. -/
theorem spPlusOffset : Obligations.SpPlusOffset :=
  fun e s => ⟨rfl, rfl, fun _ => ⟨rfl, rfl⟩, wordResult_written .sp s 16 (addSigned_eq s.cpu.sp e),
    wordResult_written .hl s 12 (addSigned_eq s.cpu.sp e)⟩

end Sys2Proof.Proofs
end

section
/-! Proofs, family 43_rotate_shift_bit.md: rotates, shifts, and BIT, RES and SET. -/

namespace Sys2Proof.Proofs

open Sys2Proof.Machine Sys2Proof.Laws

/-! ### Bit test, reset and set -/

/-- Settles O38: each form is one write of the byte with that bit replaced, to the register or to the address HL. -/
theorem resAndSet : Obligations.ResAndSet :=
  ⟨fun y r s => ⟨_, ⟨_, exec_resReg y r s, regWritten_setReg s r _ 8⟩, resetBit_getLsbD y (s.reg r)⟩,
    fun y r s => ⟨_, ⟨_, exec_setReg y r s, regWritten_setReg s r _ 8⟩, fun j _ => setBit_getLsbD y (s.reg r) j⟩,
    fun y s => ⟨_, ⟨_, exec_resMem y s, storeDone_took s s.hl _ 16⟩, resetBit_getLsbD y (s.readData s.hl)⟩,
    fun y s => ⟨_, ⟨_, exec_setMem y s, storeDone_took s s.hl _ 16⟩, fun j _ => setBit_getLsbD y (s.readData s.hl) j⟩⟩

/-- Settles O37: both forms write the flags alone. -/
theorem bitTest : Obligations.BitTest :=
  ⟨fun y r s => ⟨_, exec_bitReg y r s, flagsWritten_set s _ 8⟩, fun y s => ⟨_, exec_bitMem y s, flagsWritten_set s _ 12⟩⟩

/-! ### Accumulator rotates (R159 to R162) -/

/-- An accumulator rotate from the rotated byte: Z is 0 whatever that is. -/
theorem rotateA_eq {op : RotOp} {f : Flags} {v r : Byte} (h : rotated op f.c v = r) :
    rotateA op f v = { value := r, flags := { z := false, n := false, h := false, c := shiftedOut op v } } :=
  h ▸ rfl

/-- Settles O34: the accumulator is replaced by `rotateA` of it. -/
theorem accumulatorRotates : Obligations.AccumulatorRotates :=
  ⟨rfl, rfl, rfl, rfl, fun _ => ⟨rfl, rfl, rfl, rfl⟩, fun s =>
    ⟨updateReg_written .a s 4 (rotateA_eq (rotated_rlc s.cpu.flags.c s.cpu.a)),
      updateReg_written .a s 4 (rotateA_eq (rotated_rrc s.cpu.flags.c s.cpu.a)),
      updateReg_written .a s 4 (rotateA_eq (rotated_rl s.cpu.flags.c s.cpu.a)),
      updateReg_written .a s 4 (rotateA_eq (rotated_rr s.cpu.flags.c s.cpu.a))⟩⟩

/-! ### CB-table rotates and shifts (R164 to R179) -/

/-- What holds of every operation with its result and the bit shifted out holds of the eight written as bit fields. -/
theorem forRotOps_of_rotated {Q : RotOp → Byte → Bool → Prop} {c : Bool} {v : Byte}
    (h : ∀ op, Q op (rotated op c v) (shiftedOut op v)) :
    Q .rlc (v.rotateLeft 1) (v.getLsbD 7) ∧ Q .rrc (v.rotateRight 1) (v.getLsbD 0)
      ∧ Q .rl (v.extractLsb' 0 7 ++ BitVec.ofBool c) (v.getLsbD 7)
      ∧ Q .rr (BitVec.ofBool c ++ v.extractLsb' 1 7) (v.getLsbD 0)
      ∧ Q .sla (v.extractLsb' 0 7 ++ 0#1) (v.getLsbD 7) ∧ Q .sra (v.sshiftRight 1) (v.getLsbD 0)
      ∧ Q .swap (v.extractLsb' 0 4 ++ v.extractLsb' 4 4) false ∧ Q .srl (0#1 ++ v.extractLsb' 1 7) (v.getLsbD 0) :=
  ⟨rotated_rlc c v ▸ h .rlc, rotated_rrc c v ▸ h .rrc, rotated_rl c v ▸ h .rl, rotated_rr c v ▸ h .rr,
    rotated_sla c v ▸ h .sla, rotated_sra c v ▸ h .sra, rotated_swap c v ▸ h .swap, rotated_srl c v ▸ h .srl⟩

/-- Settles O35: the register is replaced by `rotate` of it, for each operation. -/
theorem cbRotatesOfRegister : Obligations.CbRotatesOfRegister := fun r s =>
  forRotOps_of_rotated
    (Q := fun op w out => ∃ t, exec (Instr.rotReg op r) s = .next t ∧ RegFlagsWritten r w (shiftFlags w out) 8 s t)
    fun op => ⟨_, exec_rotReg op r s, regFlagsWritten_set s r _ _ 8⟩

/-- Settles O36: the byte at HL is replaced by `rotate` of it, for each operation. -/
theorem cbRotatesOfMemory : Obligations.CbRotatesOfMemory := fun s =>
  forRotOps_of_rotated
    (Q := fun op w out => ∃ t, exec (Instr.rotMem op) s = .next t ∧
      StoreDone s.hl w { s.cpu with flags := shiftFlags w out } 16 s t)
    fun op => ⟨_, exec_rotMem op s, storeDone_setFlags s s.hl _ _ 16⟩

end Sys2Proof.Proofs
end

section
/-! Proofs, family 44_control.md: jumps, calls, returns, and the return after a call or a dispatch. -/

namespace Sys2Proof.Proofs

open Sys2Proof.Machine Sys2Proof.Laws

/-! ### The return after a push -/

/-- What a pop takes from plain storage depends on SP and the storage alone. -/
theorem popValue_congr {t u : State} (hsp : t.cpu.sp = u.cpu.sp) (hmem : t.mem = u.mem)
    (h1 : plainStorage (t.cpu.sp + 1) = true) (h2 : plainStorage t.cpu.sp = true) : popValue t = popValue u := by
  unfold popValue State.read16 State.readByte
  rw [← hsp]
  simp only [busRead_storage, h1, h2, hmem]

/-- A return to what was pushed, when neither SP nor the storage has changed since: PC is the word pushed, and SP is as it was
before. -/
theorem returned_after_push16 {s t : State} {v : Word} (hsp : t.cpu.sp = s.cpu.sp - 2) (hmem : t.mem = (push16 s v).mem)
    (h1 : plainStorage (s.cpu.sp - 1) = true) (h2 : plainStorage (s.cpu.sp - 2) = true) :
    (returned t).cpu = { t.cpu with pc := v, sp := s.cpu.sp } := by
  have above : t.cpu.sp + 1 = s.cpu.sp - 1 := by rw [hsp]; bv_omega
  have back : t.cpu.sp + 2 = s.cpu.sp := by rw [hsp, BitVec.sub_add_cancel]
  have popped : popValue t = v :=
    (popValue_congr (u := push16 s v) (by rw [hsp, push16_cpu]) hmem (above ▸ h1) (hsp ▸ h2)).trans
      (popValue_push16 s (push16 s v) v (push16 s v).cpu (push16 s v).cycles rfl (by rw [push16_cpu]) h1 h2)
  calc (returned t).cpu = { t.cpu with pc := popValue t, sp := t.cpu.sp + 2 } := rfl
    _ = { t.cpu with pc := v, sp := s.cpu.sp } := by rw [popped, back]

theorem callTo_cpu (s : State) (a : Word) : (callTo s a).cpu = { s.cpu with pc := a, sp := s.cpu.sp - 2 } :=
  congrArg (fun c : Cpu => { c with pc := a }) (push16_cpu s s.cpu.pc)

/-- RET after a call or a restart: the whole CPU is as it was. -/
theorem returned_callTo (s : State) (a : Word) (n : Nat) (h1 : plainStorage (s.cpu.sp - 1) = true)
    (h2 : plainStorage (s.cpu.sp - 2) = true) : (returned ((callTo s a).took n)).cpu = s.cpu := by
  have back := returned_after_push16 (t := (callTo s a).took n) (v := s.cpu.pc) (by rw [took_cpu, callTo_cpu]) rfl h1 h2
  rw [back, took_cpu, callTo_cpu]

theorem dispatchIrq_mem (k : IrqSource) (s : State) : (dispatchIrq k s).mem = (push16 s s.cpu.pc).mem := by
  rw [dispatchIrq_eq, push16_eq]

theorem dispatchIrq_cpu (k : IrqSource) (s : State) : (dispatchIrq k s).cpu =
    { s.cpu with ime := false, eiPending := false, sp := s.cpu.sp - 2, pc := k.vector } := by
  rw [dispatchIrq_eq]

theorem returnFromIrq_cpu (s : State) :
    (returnFromIrq s).cpu = { (returned s).cpu with ime := true, eiPending := false } := rfl

/-- RETI after a dispatch: the whole CPU is as it was, but for IME and `ei_pending`. -/
theorem returnFromIrq_dispatchIrq (k : IrqSource) (s : State) (h1 : plainStorage (s.cpu.sp - 1) = true)
    (h2 : plainStorage (s.cpu.sp - 2) = true) :
    (returnFromIrq (dispatchIrq k s)).cpu = { s.cpu with ime := true, eiPending := false } := by
  rw [returnFromIrq_cpu, returned_after_push16 (by rw [dispatchIrq_cpu]) (dispatchIrq_mem k s) h1 h2, dispatchIrq_cpu]

/-- Settles O42: all three push the address of the next instruction, and the return takes it back. -/
theorem callThenReturn : Obligations.CallThenReturn := fun s h1 h2 =>
  ⟨fun a => ⟨_, _, rfl, rfl, returned_callTo s a 24 h1 h2⟩,
    fun y => ⟨_, _, exec_rst y s, rfl, returned_callTo s (rstTarget y) 16 h1 h2⟩,
    fun k => ⟨_, rfl, returnFromIrq_dispatchIrq k s h1 h2⟩⟩

/-! ### Jumps -/

/-- A conditional transfer: `P` of the outcome where it is taken, `Q` where it is not. -/
theorem conditional_outcome {taken : Bool} {n m : Nat} {u s : State} {P Q : State → Prop} (hP : P (u.took n))
    (hQ : Q (s.took m)) :
    ∃ t, (if taken then done n u else done m s) = .next t ∧ if taken = true then P t else Q t := by
  cases taken
  · exact ⟨_, rfl, hQ⟩
  · exact ⟨_, rfl, hP⟩

/-- A jump not taken leaves PC at the next instruction, and everything else. -/
theorem pcWritten_took (s : State) (n : Nat) : PcWritten s.cpu.pc n s (s.took n) :=
  pcWritten_set s s.cpu.pc n

/-- A relative jump writes PC with the signed sum. -/
theorem pcWritten_jumpBy (s : State) (e : Byte) (n : Nat) :
    PcWritten (BitVec.ofInt 16 (s.cpu.pc.toNat + e.toInt)) n s ((jumpBy s e).took n) :=
  add_sext16 s.cpu.pc e ▸ pcWritten_set s (s.cpu.pc + sext16 e) n

/-- Settles O39: a jump taken is one write of PC, and one not taken changes nothing. -/
theorem jumps : Obligations.Jumps := by
  unfold Obligations.Jumps
  simp only [exec_jpCond, exec_jrCond]
  exact ⟨fun _ => ⟨rfl, rfl, rfl, rfl⟩,
    fun a s => ⟨_, rfl, pcWritten_set s a 16⟩,
    fun s => ⟨_, rfl, pcWritten_set s s.hl 4⟩,
    fun _ a s => conditional_outcome (pcWritten_set s a 16) (pcWritten_took s 12),
    fun e s => ⟨_, rfl, pcWritten_jumpBy s e 12⟩,
    fun _ e s => conditional_outcome (pcWritten_jumpBy s e 12) (pcWritten_took s 8)⟩

/-! ### Calls and restarts -/

/-- All that a call or a restart does: PC is pushed, then PC is the target. -/
theorem callTo_outcome (s : State) (a : Word) (n : Nat) :
    WordPushed s.cpu.pc s ((callTo s a).took n) ∧ ((callTo s a).took n).cpu.pc = a
      ∧ SameControl s ((callTo s a).took n) ∧ ((callTo s a).took n).cycles = n := by
  refine ⟨?_, rfl, by simp [SameControl, callTo_cpu], rfl⟩
  exact wordPushed_push16 s s.cpu.pc a (callTo s a).cpu.ime (callTo s a).cpu.eiPending n

/-- A transfer not taken changes nothing. -/
theorem cpuBecomes_took (s : State) (n : Nat) : CpuBecomes s.cpu n s (s.took n) :=
  cpuBecomes_set s s.cpu n

theorem callCond_taken {k : Cond} {s : State} (h : s.cond k = true) (a : Word) :
    exec (Instr.callCond k a) s = done 24 (callTo s a) := by
  rw [exec_callCond, callCond, if_pos h]

theorem callCond_not_taken {k : Cond} {s : State} (h : s.cond k = false) (a : Word) :
    exec (Instr.callCond k a) s = done 12 s := by
  simp [callCond, h]

/-- Settles O40: each form taken is `callTo` its target, and one not taken changes nothing. -/
theorem callsAndRestarts : Obligations.CallsAndRestarts :=
  ⟨fun a s => ⟨_, rfl, callTo_outcome s a 24⟩,
    fun _ a s h => ⟨_, callCond_taken h a, callTo_outcome s a 24⟩,
    fun _ a s h => ⟨_, callCond_not_taken h a, cpuBecomes_took s 12⟩,
    fun y s => ⟨_, exec_rst y s, callTo_outcome s (rstTarget y) 16⟩⟩

/-! ### Returns -/

theorem retCond_taken {k : Cond} {s : State} (h : s.cond k = true) :
    exec (Instr.retCond k) s = done 20 (returned s) := by
  rw [exec_retCond, retCond, if_pos h]

theorem retCond_not_taken {k : Cond} {s : State} (h : s.cond k = false) : exec (Instr.retCond k) s = done 8 s := by
  simp [retCond, h]

/-- Settles O41: each form taken changes the CPU alone, in PC, SP and, for RETI, the interrupt latch. -/
theorem returns : Obligations.Returns :=
  ⟨fun s => ⟨_, rfl, cpuBecomes_set s _ 16⟩,
    fun _ s h => ⟨_, retCond_taken h, cpuBecomes_set s _ 20⟩,
    fun _ s h => ⟨_, retCond_not_taken h, cpuBecomes_took s 8⟩,
    fun s => ⟨_, rfl, cpuBecomes_set s _ 16⟩⟩

end Sys2Proof.Proofs
end

section
/-! Proofs, family 45_system.md: NOP, HALT, STOP, DI and EI, the escape byte, and the invalid bytes. -/

namespace Sys2Proof.Proofs

open Sys2Proof.Machine Sys2Proof.Laws

/-! ### The parts of a step -/

/-- A step that fetches runs the instruction (60_exceptions.md R206). -/
theorem dispatchOrRun_of_fetches {s : State} (h : s.fetches = true) :
    s.goesOn = true ∧ dispatchOrRun s.atFetch = runInstr s.atFetch := by
  simp only [State.fetches, Bool.and_eq_true, Option.isNone_iff_eq_none, beq_iff_eq] at h
  obtain ⟨⟨hgo, htaken⟩, hrun⟩ := h
  exact ⟨hgo, by simp only [dispatchOrRun, htaken, hrun, if_true]⟩

/-- What the CPU's part of a step completes, the end of the step takes over. -/
theorem step_of_dispatchOrRun_next {s u : State} (hgo : s.goesOn = true) (h : dispatchOrRun s.atFetch = .next u) :
    step s = finishStep u := by
  rw [step_of_goesOn s hgo, h]

/-- A fault of the CPU's part of a step is the step's answer. -/
theorem step_of_dispatchOrRun_fault {s : State} {f : Fault} (hgo : s.goesOn = true)
    (h : dispatchOrRun s.atFetch = .fault f) : step s = .fault f := by
  rw [step_of_goesOn s hgo, h]

/-- An instruction that goes on is its meaning and then the EI delay. -/
theorem runInstr_next {s t : State} (h : runInstr s = .next t) :
    ∃ u, exec (fetched s) (advancePc (fetched s) s) = .next u ∧ t = applyEiDelay s.cpu.eiPending u := by
  unfold runInstr at h
  split at h <;> cases h
  exact ⟨_, ‹_›, rfl⟩

/-- A step ends with the devices' advance, unless one of its two refusals holds. -/
theorem finishStep_of_allowed {s : State} (hdma : s.dmaWritten = false)
    (hlcd : s.config.lcdOff = .ignored ∨ s.ppu.lcdc.getLsbD 7 = true) : finishStep s = .next (advanceDevices s) := by
  have lcd : lcdRefused s = false := by rcases hlcd with h | h <;> simp [lcdRefused, h]
  simp [finishStep, hdma, lcd]

/-! ### NOP, HALT, STOP, DI and EI (R198 to R202) -/

/-- EI with EI_DELAY = 1 sets `ei_pending` alone. -/
theorem enableIrq_one {s : State} (h : s.config.eiDelay = .one) : enableIrq s = s.setIme s.cpu.ime true := by
  unfold enableIrq
  rw [h]

/-- EI with EI_DELAY = 0 sets IME alone. -/
theorem enableIrq_zero {s : State} (h : s.config.eiDelay = .zero) : enableIrq s = s.setIme true s.cpu.eiPending := by
  unfold enableIrq
  rw [h]

theorem exec_ei (s : State) : exec .ei s = .next ((enableIrq s).took 4) := rfl

/-- Settles O43: each word decodes to its row, and each instruction changes the CPU alone, in the part its rule names. -/
theorem systemInstructions : Obligations.SystemInstructions := by
  refine ⟨rfl, rfl, rfl, rfl, fun _ => rfl, fun _ => ⟨rfl, rfl, rfl, rfl⟩, rfl, rfl, fun s => ?_⟩
  refine ⟨⟨_, rfl, cpuBecomes_set s _ 4⟩, ⟨_, rfl, cpuBecomes_set s _ 4⟩, ⟨_, rfl, cpuBecomes_set s _ 4⟩,
    ⟨_, rfl, cpuBecomes_set s _ 4⟩, fun one => ⟨_, exec_ei s, ?_⟩, fun zero => ⟨_, exec_ei s, ?_⟩⟩
  · rw [enableIrq_one one]
    exact cpuBecomes_set s _ 4
  · rw [enableIrq_zero zero]
    exact cpuBecomes_set s _ 4

/-! ### The EI delay (R202, R207) -/

/-- Only DI and RETI clear `ei_pending`. -/
theorem exec_keeps_eiPending {i : Instr} {s t : State} (h : exec i s = .next t) (hdi : i ≠ .di) (hreti : i ≠ .reti)
    (hs : s.cpu.eiPending = true) : t.cpu.eiPending = true := by
  rcases (exec_controlFrame i s t h).ime with writes | ⟨-, kept⟩
  · cases writes with
    | di => exact absurd rfl hdi
    | reti => exact absurd rfl hreti
    | ei =>
      cases (exec_ei s).symm.trans h
      cases delay : s.config.eiDelay with
      | one => rw [enableIrq_one delay]; rfl
      | zero => rw [enableIrq_zero delay]; exact hs
  · exact kept.trans hs

/-- The delay expires: `ei_pending` was set before the instruction and is still set after it. -/
theorem applyEiDelay_expired {s : State} (h : s.cpu.eiPending = true) : applyEiDelay true s = s.setIme true false := by
  simp [applyEiDelay, h]

/-- Nothing is left to apply where the instruction cleared `ei_pending`, as DI does (R201). -/
theorem applyEiDelay_cleared (was : Bool) {s : State} (h : s.cpu.eiPending = false) : applyEiDelay was s = s := by
  simp [applyEiDelay, h]

/-- Settles O10: EI itself only sets `ei_pending`, which the next instruction keeps unless it is DI or RETI, so that the
delay then expires; DI clears it. -/
theorem eiTakesEffectOneInstructionLater : Obligations.EiTakesEffectOneInstructionLater := by
  intro s t h
  obtain ⟨u, hu, rfl⟩ := runInstr_next h
  refine ⟨fun ei one clear => ?_, fun pending notDi notReti => ?_, fun pending di => ?_⟩
  · rw [ei] at hu
    cases (exec_ei _).symm.trans hu
    rw [clear, enableIrq_one (s := advancePc .ei s) one]
    exact ⟨rfl, rfl⟩
  · have still : u.cpu.eiPending = true := exec_keeps_eiPending hu notDi notReti pending
    rw [pending, applyEiDelay_expired still]
    exact ⟨rfl, rfl⟩
  · rw [di] at hu
    cases hu
    rw [applyEiDelay_cleared _ rfl]
    exact ⟨rfl, rfl⟩

/-! ### HALT with no enabled source (R199) -/

theorem wake_of_nothing_pending {s : State} (hrun : s.cpu.run = .halted) (h : s.pending = 0) : wake s = s := by
  simp [wake, hrun, h]

/-- Where nothing is enabled nothing is pending, whatever is requested. -/
theorem pending_of_nothing_enabled {s : State} (h : s.irq.enable = 0) : s.pending = 0 := by
  simp [State.pending, h]

theorem interruptTaken_of_nothing_pending {s : State} (h : s.pending = 0) : interruptTaken s = none := by
  simp [interruptTaken, h, firstPending]

/-- A halted CPU with no enabled source is found as it was: only the host's schedule, the requests and the overlay may
differ. -/
theorem atFetch_of_halted {s : State} (hrun : s.cpu.run = .halted) (henable : s.irq.enable = 0) :
    ∃ j r b, s.atFetch = { s with joypadEvents := j, irq := { s.irq with request := r }, bootMapped := b } := by
  obtain ⟨j, r, hhost⟩ := hostTurn_shape s
  obtain ⟨b, hboot, -⟩ := unmapBoot_shape (hostTurn s)
  refine ⟨j, r, b, ?_⟩
  unfold State.atFetch
  rw [hboot, hhost]
  exact wake_of_nothing_pending hrun (pending_of_nothing_enabled henable)

/-- A CPU that does not run, with nothing enabled, waits 4 cycles (60_exceptions.md R209). -/
theorem dispatchOrRun_of_waiting {s : State} (hrun : s.cpu.run ≠ .running) (henable : s.irq.enable = 0) :
    dispatchOrRun s = .next (s.took 4) := by
  simp only [dispatchOrRun, interruptTaken_of_nothing_pending (pending_of_nothing_enabled henable), if_neg hrun]
  rfl

/-- Settles O9: the CPU is found halted and waits, and neither what stands before the fetch nor the devices write the CPU,
IE, LCDC, the parameters or the record of a DMA write. -/
theorem haltWithoutEnabledSourceNeverEnds : Obligations.HaltWithoutEnabledSourceNeverEnds := by
  intro s hgo hrun henable hlcd
  have hdma : s.dmaWritten = false := by simp_all [State.goesOn]
  obtain ⟨j, r, b, hfetch⟩ := atFetch_of_halted hrun henable
  have waits : dispatchOrRun s.atFetch = .next (s.atFetch.took 4) :=
    dispatchOrRun_of_waiting (by simp [hfetch, hrun]) (by rw [hfetch]; exact henable)
  have stepped : step s = .next (advanceDevices (s.atFetch.took 4)) := by
    rw [step_of_dispatchOrRun_next hgo waits]
    exact finishStep_of_allowed (by rw [hfetch]; exact hdma) (by rw [hfetch]; exact hlcd)
  have lcdc : (advanceDevices (s.atFetch.took 4)).ppu.lcdc = s.ppu.lcdc := by
    rw [advanceDevices_lcdc, took_ppu, hfetch]
  refine ⟨_, stepped, ?_⟩
  obtain ⟨v, acc, q, p, hdevices, -⟩ := advanceDevices_shape (s.atFetch.took 4)
  rw [hdevices, hfetch] at lcdc ⊢
  exact ⟨rfl, henable, hgo, rfl, lcdc, rfl⟩

/-! ### The invalid bytes (R204) -/

/-- Running an invalid byte is the fault, with the byte and its own address: PC is one past it when its rule starts. -/
theorem runInstr_of_invalid {s : State} {op : Byte} (h : fetched s = .invalid op) :
    runInstr s = .fault (.invalidOpcode op s.cpu.pc) := by
  have back : (advancePc (.invalid op) s).cpu.pc - 1 = s.cpu.pc := BitVec.add_sub_cancel s.cpu.pc 1
  have faults : exec (.invalid op) (advancePc (.invalid op) s) = .fault (.invalidOpcode op s.cpu.pc) := by
    rw [← back]
    rfl
  rw [runInstr, h, faults]

theorem step_of_fault {s : State} {f : InvalidOpcode} (h : s.cpu.fault = some f) :
    step s = .fault (.invalidOpcode f.byte f.addr) := by
  rw [step, systemStep, h]

/-- Settles O11: the fetched byte decodes to its invalid instruction, which faults; and a recorded fault is what the step
answers, which is what `faultedState` records. -/
theorem invalidOpcodeEndsTheRun : Obligations.InvalidOpcodeEndsTheRun := by
  refine ⟨fun s hfetches hbyte => ?_, fun _ _ => step_of_fault, fun s byte addr =>
    ⟨step_of_fault (f := ⟨byte, addr⟩) rfl, rfl, atFetch_pc s⟩⟩
  have invalid : fetched s.atFetch = .invalid (s.atFetch.readByte 0 s.atFetch.cpu.pc) :=
    (decodeWindow_eq_invalid_iff _ _ _ _).mpr ⟨rfl, hbyte⟩
  obtain ⟨hgo, runs⟩ := dispatchOrRun_of_fetches hfetches
  exact step_of_dispatchOrRun_fault hgo (runs.trans (runInstr_of_invalid invalid))

/-! ### The escape byte (R203) -/

theorem exec_rotR8 (op : RotOp) (r : R8) (s : State) : exec (.rotR8 op r) s = cbRot op r s := by
  cases r with
  | reg r => exact exec_rotReg op r s
  | atHL => exact exec_rotMem op s

theorem exec_bitR8 (y : Oct) (r : R8) (s : State) : exec (.bitR8 y r) s = cbBit y r s := by
  cases r with
  | reg r => exact exec_bitReg y r s
  | atHL => exact exec_bitMem y s

theorem exec_resR8 (y : Oct) (r : R8) (s : State) : exec (.resR8 y r) s = cbRes y r s := by
  cases r with
  | reg r => exact exec_resReg y r s
  | atHL => exact exec_resMem y s

theorem exec_setR8 (y : Oct) (r : R8) (s : State) : exec (.setR8 y r) s = cbSet y r s := by
  cases r with
  | reg r => exact exec_setReg y r s
  | atHL => exact exec_setMem y s

/-- The decoder's CB table and the rule of the escape byte agree, quadrant by quadrant (30_encoding.md R82). -/
theorem exec_decodeCb (b : Byte) (s : State) : exec (decodeCb b) s = cbByte b s := by
  have hx := fieldX_lt b
  unfold decodeCb cbByte
  generalize fieldX b = x at hx ⊢
  match x, hx with
  | 0, _ => exact exec_rotR8 _ _ s
  | 1, _ => exact exec_bitR8 _ _ s
  | 2, _ => exact exec_resR8 _ _ s
  | 3, _ => exact exec_setR8 _ _ s

/-- An instruction of another first byte is no row of the CB table. -/
theorem encode_ne_of_head {i : Instr} {op : Byte} {rest : List Byte} (b : Byte) (h : encode i = op :: rest)
    (hop : op ≠ 0xCB) : encode i ≠ [0xCB, b] := by
  rw [h]
  exact fun same => hop (List.cons.inj same).1

/-- No control transfer is a row of the CB table, and neither is the escape byte alone. -/
theorem WritesPc.encode_ne {i : Instr} (h : WritesPc i) (b : Byte) : encode i ≠ [0xCB, b] := by
  cases h with
  | prefixCb => exact fun same => List.cons_ne_nil b [] (List.cons.inj same).2.symm
  | jpCond x | jrCond x | callCond x | retCond x | rst x => cases x <;> exact encode_ne_of_head b rfl (by decide)
  | jp_a16 | jp_HL | jr_e8 | call_a16 | ret | reti => exact encode_ne_of_head b rfl (by decide)

/-- A CB-table rule completes, and leaves PC past both bytes. -/
theorem cbByte_keeps_pc (b : Byte) (s : State) : ∃ t, cbByte b s = .next t ∧ t.cpu.pc = s.cpu.pc := by
  obtain ⟨t, ht, frame⟩ := cbByte_controlFrame b (decodeCb b) s
  exact ⟨t, ht, frame.pc.resolve_left fun writes => writes.encode_ne b (encode_decodeCb b)⟩

/-- Only STOP's length depends on `STOP_LENGTH`: every other instruction is as long as its encoding (30_encoding.md R71). -/
theorem length_eq_encode {i : Instr} (h : i ≠ .stop) (stop : StopLength) : i.length stop = (encode i).length := by
  cases i
  case stop => exact absurd rfl h
  all_goals rfl

/-- No row of the CB table is an instruction of other bytes than its own. -/
theorem decodeCb_ne {i : Instr} (b : Byte) (h : encode i ≠ [0xCB, b]) : decodeCb b ≠ i := by
  rintro rfl
  exact h (encode_decodeCb b)

/-- Settles O44: the escape byte's rule is the CB-table instruction of the byte that it fetches, and the encoding of that
instruction is both bytes. -/
theorem prefixRunsTheCbTable : Obligations.PrefixRunsTheCbTable := by
  refine ⟨fun s => (exec_decodeCb _ _).symm, fun s => cbByte_keeps_pc _ (s.setPc (s.cpu.pc + 1)), fun b b2 stop =>
    ⟨rfl, ?_, decodeCb_ne b (WritesPc.prefixCb.encode_ne b)⟩⟩
  have notStop : decodeCb b ≠ .stop := decodeCb_ne b (encode_ne_of_head b rfl (by decide))
  rw [length_eq_encode notStop, encode_decodeCb]
  rfl

end Sys2Proof.Proofs
end

section
/-! Proofs, family 60_exceptions.md: the interrupt check, the dispatch, the wake, and the end of a step. -/

namespace Sys2Proof.Proofs

open Sys2Proof.Machine Sys2Proof.Laws

/-! ### The pending set and its first source (R210, R212) -/

/-- The mask of a source is its bit alone. -/
theorem mask_getLsbD (k : IrqSource) (j : Nat) : k.mask.getLsbD j = decide (j = k.bit) := by
  have hbit : k.bit < 5 := by cases k <;> decide
  have power : k.mask = BitVec.twoPow 5 k.bit := rfl
  rw [power, BitVec.getLsbD_twoPow, decide_eq_true hbit, Bool.true_and]
  exact decide_eq_decide.mpr eq_comm

/-- An acknowledge clears the source's bit of IF and no other. -/
theorem request_and_not_mask (r : BitVec 5) (k : IrqSource) (j : Nat) :
    (r &&& ~~~k.mask).getLsbD j = (r.getLsbD j && decide (j ≠ k.bit)) := by
  rw [BitVec.getLsbD_and, BitVec.getLsbD_not, mask_getLsbD, decide_not]
  by_cases hj : j < 5
  · rw [decide_eq_true hj, Bool.true_and]
  · rw [BitVec.getLsbD_of_ge r j (Nat.le_of_not_lt hj), Bool.false_and, Bool.false_and]

theorem firstPending_eq_none_iff (p : BitVec 5) : firstPending p = none ↔ p = 0 := by
  revert p
  decide

/-- The source that is selected is the lowest bit of the pending set. -/
theorem firstPending_eq_some_iff (p : BitVec 5) (k : IrqSource) :
    firstPending p = some k ↔ p.getLsbD k.bit = true ∧ ∀ j, j < k.bit → p.getLsbD j = false := by
  revert p
  cases k <;> decide

/-- An interrupt is taken only with IME set, and then the first pending one. -/
theorem interruptTaken_eq_some_iff (s : State) (k : IrqSource) :
    interruptTaken s = some k ↔ s.cpu.ime = true ∧ firstPending s.pending = some k := by
  unfold interruptTaken
  cases s.cpu.ime <;> simp

theorem interruptTaken_eq_none_iff (s : State) : interruptTaken s = none ↔ s.cpu.ime = false ∨ s.pending = 0 := by
  unfold interruptTaken
  cases s.cpu.ime <;> simp [firstPending_eq_none_iff]

/-! ### The three ways of a step (R206) -/

/-- A step that takes an interrupt dispatches it, whatever `run` is, and fetches nothing. -/
theorem step_of_interruptTaken {s : State} {k : IrqSource} (hgo : s.goesOn = true)
    (h : interruptTaken s.atFetch = some k) : step s = finishStep (dispatchIrq k s.atFetch) :=
  step_of_dispatchOrRun_next hgo (by rw [dispatchOrRun, h])

/-- With IME set, the lowest bit of the pending set is what a step dispatches. -/
theorem step_of_lowest_pending {s : State} {k : IrqSource} (hgo : s.goesOn = true) (hime : s.atFetch.cpu.ime = true)
    (hk : s.atFetch.pending.getLsbD k.bit = true) (hlow : ∀ j, j < k.bit → s.atFetch.pending.getLsbD j = false) :
    step s = finishStep (dispatchIrq k s.atFetch) :=
  step_of_interruptTaken hgo
    ((interruptTaken_eq_some_iff _ k).mpr ⟨hime, (firstPending_eq_some_iff _ k).mpr ⟨hk, hlow⟩⟩)

theorem fetches_iff (s : State) : s.fetches = true ↔
    s.goesOn = true ∧ interruptTaken s.atFetch = none ∧ s.atFetch.cpu.run = .running := by
  simp [State.fetches, and_assoc]

/-- A step that fetches runs the instruction, and then its own end. -/
theorem step_of_fetches {s : State} (h : s.fetches = true) : step s = match runInstr s.atFetch with
    | .next t => finishStep t
    | .fault f => .fault f
    | .refused r => .refused r := by
  obtain ⟨hgo, runs⟩ := dispatchOrRun_of_fetches h
  have stepped := step_of_goesOn s hgo
  rw [runs] at stepped
  exact stepped

/-- A CPU that does not run and takes no interrupt waits 4 cycles (R209). -/
theorem dispatchOrRun_of_wait {s : State} (htaken : interruptTaken s = none) (hrun : s.cpu.run ≠ .running) :
    dispatchOrRun s = .next (s.took 4) := by
  rw [dispatchOrRun, htaken]
  exact if_neg hrun

/-- Settles O7: the pending set's lowest bit is what is selected, and a step that takes it dispatches it. -/
theorem stepTakesHighestPriorityInterrupt : Obligations.StepTakesHighestPriorityInterrupt :=
  ⟨fun s => firstPending_eq_none_iff s.pending, fun s => firstPending_eq_some_iff s.pending,
    fun s k => ⟨rfl, rfl, request_and_not_mask s.irq.request k⟩,
    fun s hgo => ⟨fun _ => step_of_lowest_pending hgo, (interruptTaken_eq_none_iff s.atFetch).mpr⟩⟩

/-! ### The dispatch (R214) -/

/-- Only a read of 0xFF0F sees IF. -/
theorem busRead_withRequest (joy : BitVec 4) (s : State) (r : BitVec 5) (x : Word) (hx : x ≠ 0xFF0F) :
    busRead joy { s with irq := { s.irq with request := r } } x = busRead joy s x := by
  refine busRead_congr joy s _ x rfl rfl rfl (.inl rfl) rfl (fun _ _ => rfl) (fun _ => ?_) (fun _ => rfl)
  unfold ioRead
  cases hr : ioReg x
  case intFlag => exact absurd ((eq_ioAddr x (by rw [hr]; decide)).trans (by rw [hr]; rfl)) hx
  all_goals rfl

/-- Settles O6: a dispatch is two stores, a new CPU and the acknowledge, which only a read of 0xFF0F sees. -/
theorem interruptDispatchEffect : Obligations.InterruptDispatchEffect := by
  refine ⟨fun s k h => ?_, fun k s => ?_⟩
  · obtain ⟨hime, hfirst⟩ := (interruptTaken_eq_some_iff s k).mp h
    exact ⟨hime, (firstPending_eq_some_iff _ k).mp hfirst⟩
  · have pushed := twoBytesStored_busWrite s (s.cpu.sp - 1) (s.cpu.sp - 2) (hi8 s.cpu.pc) (lo8 s.cpu.pc)
      { s.cpu with ime := false, eiPending := false, sp := s.cpu.sp - 2, pc := k.vector } 20 (mirrored_push s.cpu.sp)
    have notIf : ∀ a, plainStorage a = true → a ≠ 0xFF0F := fun a ha h => by
      rw [h] at ha
      exact absurd ha (by decide)
    rw [dispatchIrq_eq]
    refine ⟨rfl, request_and_not_mask _ k, pushed.exact, rfl, fun h joy => ?_, fun h joy => ?_, fun joy x hx hw => ?_,
      rfl⟩
    · exact (busRead_withRequest joy _ _ _ (notIf _ h)).trans (pushed.reads1 h joy)
    · exact (busRead_withRequest joy _ _ _ (notIf _ h)).trans (pushed.reads2 h joy)
    · have sub : ∀ a ∈ [s.cpu.sp - 1, s.cpu.sp - 2], a ∈ [s.cpu.sp - 1, s.cpu.sp - 2, 0xFF0F] :=
        fun a ha => List.mem_append_left [0xFF0F] ha
      have ne : x ≠ 0xFF0F := fun h => hx 0xFF0F (by simp) (congrArg mirrored h)
      exact (busRead_withRequest joy _ _ x ne).trans
        (pushed.frame joy x (fun a ha => hx a (sub a ha)) (hw.imp_left fun h a ha => h a (sub a ha)))

/-! ### The wake (R208) -/

theorem wake_of_running {s : State} (h : s.cpu.run = .running) : wake s = s := by
  simp only [wake, h]

theorem wake_of_halted {s : State} (h : s.cpu.run = .halted) :
    wake s = if s.pending = 0 then s else s.setRun .running := by
  simp only [wake, h]

theorem wake_of_stopped_immediate {s : State} (h : s.cpu.run = .stopped) (hmode : s.config.stopMode = .immediateWake) :
    wake s = s.setRun .running := by
  simp only [wake, h, hmode]

theorem wake_of_stopped_asHalt {s : State} (h : s.cpu.run = .stopped) (hmode : s.config.stopMode = .asHalt) :
    wake s = if s.pending = 0 then s else s.setRun .running := by
  simp only [wake, h, hmode]

/-- With something pending the CPU runs after the wake, whatever IME is. -/
theorem wake_run_of_pending {s : State} (h : s.pending ≠ 0) : (wake s).cpu.run = .running := by
  cases hrun : s.cpu.run with
  | running => rw [wake_of_running hrun, hrun]
  | halted => rw [wake_of_halted hrun, if_neg h]; rfl
  | stopped =>
    cases hmode : s.config.stopMode with
    | immediateWake => rw [wake_of_stopped_immediate hrun hmode]; rfl
    | asHalt => rw [wake_of_stopped_asHalt hrun hmode, if_neg h]; rfl

/-- A CPU that is still not running after the wake is the one before it. -/
theorem wake_eq_of_not_running {s : State} (h : (wake s).cpu.run ≠ .running) : wake s = s := by
  obtain ⟨r, e, hr⟩ := wake_shape s
  rw [e] at h ⊢
  obtain rfl : r = s.cpu.run := hr.resolve_right h
  rfl

/-- Nothing before the fetch writes IME. -/
theorem atFetch_ime (s : State) : s.atFetch.cpu.ime = s.cpu.ime := by
  obtain ⟨_, _, _, _, e, -⟩ := atFetch_shape s
  rw [e]

theorem unmapBoot_irq (s : State) : (unmapBoot s).irq = s.irq := by
  obtain ⟨_, e, -⟩ := unmapBoot_shape s
  rw [e]

/-- Of what stands before the fetch, only the host's turn writes the interrupt controller. -/
theorem atFetch_irq (s : State) : s.atFetch.irq = (hostTurn s).irq := by
  obtain ⟨_, e, -⟩ := wake_shape (unmapBoot (hostTurn s))
  rw [State.atFetch, e]
  exact unmapBoot_irq (hostTurn s)

/-- Settles O8: the wake's cases, and the three ways of a step after it. -/
theorem wakeAndWait : Obligations.WakeAndWait := by
  refine ⟨fun _ => wake_of_running, fun _ => wake_of_halted, fun _ => wake_of_stopped_immediate,
    fun _ => wake_of_stopped_asHalt, fun s h => ?_, fun s hgo hrun => ?_, fun s hgo htaken hrun => ?_⟩
  · exact wake_run_of_pending (s := unmapBoot (hostTurn s)) (by rwa [State.pending, unmapBoot_irq])
  · rw [← atFetch_ime, ← atFetch_irq]
    exact ⟨fun k => step_of_lowest_pending hgo, fun hime =>
      step_of_fetches ((fetches_iff s).mpr ⟨hgo, (interruptTaken_eq_none_iff _).mpr (.inl hime), hrun⟩)⟩
  · exact ⟨step_of_dispatchOrRun_next hgo (dispatchOrRun_of_wait htaken hrun), wake_eq_of_not_running hrun⟩

/-! ### The instruction of a step, and its end (R205, R206) -/

/-- The three bytes at PC decode to the instruction that is fetched (30_encoding.md R80). -/
theorem decode_window (s : State) : decode s.window = .ok (fetched s) := rfl

theorem lcdRefused_iff (s : State) :
    lcdRefused s = true ↔ s.config.lcdOff = .refuse ∧ s.ppu.lcdc.getLsbD 7 = false := by
  simp [lcdRefused]

/-- A step that wrote 0xFF46 ends in that refusal, first of the two (R232). -/
theorem finishStep_of_dmaWritten {s : State} (h : s.dmaWritten = true) : finishStep s = .refused .oamDma := by
  rw [finishStep, if_pos h]

theorem finishStep_of_lcdRefused {s : State} (hdma : s.dmaWritten = false) (hlcd : lcdRefused s = true) :
    finishStep s = .refused .lcdOff := by
  rw [finishStep, hdma, if_neg Bool.false_ne_true, if_pos hlcd]

/-- Settles O5: the window decodes to the fetched instruction, which the step runs; the end of the step is what its own
definitions say. -/
theorem stepRunsDecodedInstruction : Obligations.StepRunsDecodedInstruction := by
  refine ⟨fun s i hfetches hdecode => ?_, fun _ => rfl, fun t => ?_, advanceDevices_eq, fun _ _ => rfl,
    fun _ => ⟨rfl, fun _ => rfl⟩⟩
  · obtain rfl : fetched s.atFetch = i := Except.ok.inj ((decode_window s.atFetch).symm.trans hdecode)
    rw [step_of_fetches hfetches, runInstr, advancePc, atFetch_config]
    cases exec (fetched s.atFetch) _ <;> rfl
  · simp only [finishStep, lcdRefused_iff]

/-- The CPU's part of a step keeps the parameters. -/
theorem dispatchOrRun_config {s t : State} (h : dispatchOrRun s.atFetch = .next t) : t.config = s.config :=
  have kept := (cpuCompletes_configuration s.atFetch t (dispatchOrRun_next _ t h)).1
  (congrArg (fun p => p.2.2) kept).trans (atFetch_config s)

/-- A write of 0xFF46 stores nothing (R232; log entry 11). -/
theorem busWrite_dma (s : State) (v : Byte) : busWrite s 0xFF46 v = { s with dmaWritten := true } := by
  have reg : ioReg 0xFF46 = .dma := rfl
  simp only [busWrite_io s 0xFF46 v (by decide) (by decide), ioWrite, reg]

/-- Settles O17: a step ends in the first of the two refusals that holds, or in the advance of the devices. -/
theorem dmaAndLcdRefusals : Obligations.DmaAndLcdRefusals := by
  refine ⟨fun s v _ => busWrite_dma s v, fun s joy => busRead_io joy s 0xFF46 (by decide) (by decide),
    fun s t hgo ht hdma => ?_, fun s t hgo ht hdma hmodel hlcdc => ?_, fun s t hgo ht hdma hlcd => ?_⟩
  · rw [step_of_dispatchOrRun_next hgo ht, finishStep_of_dmaWritten hdma]
  · rw [← dispatchOrRun_config ht] at hmodel
    rw [step_of_dispatchOrRun_next hgo ht, finishStep_of_lcdRefused hdma ((lcdRefused_iff t).mpr ⟨hmodel, hlcdc⟩)]
  · rw [← dispatchOrRun_config ht] at hlcd
    rw [step_of_dispatchOrRun_next hgo ht, finishStep_of_allowed hdma hlcd, advanceDevices_eq]

/-! ### Faults and cycles (R209, R217) -/

theorem finishStep_ne_fault (s : State) (f : Fault) : finishStep s ≠ .fault f := by
  unfold finishStep
  split
  · exact nofun
  · split <;> exact nofun

/-- Where no fault is recorded, only the CPU's part of a step faults. -/
theorem step_fault {s : State} {f : Fault} (hs : s.cpu.fault = none) (h : step s = .fault f) :
    s.goesOn = true ∧ dispatchOrRun s.atFetch = .fault f := by
  cases hdma : s.dmaWritten with
  | true =>
    simp only [step, systemStep, hs, hdma, if_true] at h
    cases h
  | false =>
    have hgo : s.goesOn = true := by simp [State.goesOn, hs, hdma]
    rw [step_of_goesOn s hgo] at h
    cases hcpu : dispatchOrRun s.atFetch <;> rw [hcpu] at h
    case next t => exact absurd h (finishStep_ne_fault t f)
    case fault g => exact ⟨hgo, h⟩
    case refused r => cases h

/-- Neither a dispatch nor a wait faults. -/
theorem dispatchOrRun_fault {s : State} {f : Fault} (h : dispatchOrRun s = .fault f) :
    interruptTaken s = none ∧ s.cpu.run = .running ∧ runInstr s = .fault f := by
  cases htaken : interruptTaken s with
  | some k => simp only [dispatchOrRun, htaken, reduceCtorEq] at h
  | none =>
    by_cases hrun : s.cpu.run = .running
    · simp only [dispatchOrRun, htaken, hrun, if_true] at h
      exact ⟨rfl, hrun, h⟩
    · rw [dispatchOrRun_of_wait htaken hrun] at h
      cases h

/-- An instruction faults only as an invalid byte, and at its own address. -/
theorem runInstr_fault {s : State} {f : Fault} (h : runInstr s = .fault f) :
    ∃ op, fetched s = .invalid op ∧ f = .invalidOpcode op s.cpu.pc := by
  obtain ⟨op, hop, -⟩ | ⟨t, ht⟩ := exec_next_or_invalid (fetched s) (advancePc (fetched s) s)
  · rw [runInstr_of_invalid hop] at h
    cases h
    exact ⟨op, hop, rfl⟩
  · rw [runInstr, ht] at h
    cases h

/-- Settles O12: of the parts of a step only the instruction faults, as the invalid byte that was fetched. -/
theorem onlyInvalidBytesFault : Obligations.OnlyInvalidBytesFault := by
  intro s f hs h
  obtain ⟨hgo, hcpu⟩ := step_fault hs h
  obtain ⟨htaken, hrun, hinstr⟩ := dispatchOrRun_fault hcpu
  obtain ⟨op, hop, rfl⟩ := runInstr_fault hinstr
  obtain ⟨rfl, hbyte⟩ := (decodeWindow_eq_invalid_iff _ _ _ _).mp hop
  exact ⟨(fetches_iff s).mpr ⟨hgo, htaken, hrun⟩, hbyte, rfl⟩

/-- Settles O13: an instruction, a dispatch and a wait each cost one of the six, and the devices keep the count. -/
theorem stepCyclesInRange : Obligations.StepCyclesInRange := by
  intro s t h
  obtain ⟨-, u, hu, -, rfl⟩ := step_next s t h
  obtain ⟨_, _, n, _, -, hn, -, -, rfl⟩ := dispatchOrRun_next _ u hu
  obtain ⟨_, _, _, _, e, -⟩ := advanceDevices_shape _
  rw [e]
  exact hn

/-! ### The PPU's registers as bus addresses (R230) -/

/-- STAT as a number: 1, the four enables, the coincidence, the mode's number. -/
theorem statByte_toNat (p : Ppu) :
    p.statByte.toNat = 0x80 + p.statEnable.toNat * 8 + p.lycMatch.toNat * 4 + p.mode.code.toNat := by
  have top : (1#1).toNat = 1 := rfl
  rw [Ppu.statByte, append_toNat, append_toNat, append_toNat, BitVec.toNat_ofBool, top]
  omega

/-- A write of STAT stores its bits 6:3. -/
theorem busWrite_stat (s : State) (v : Byte) :
    busWrite s 0xFF41 v = { s with ppu := { s.ppu with statEnable := BitVec.ofNat 4 (v.toNat / 8) } } := by
  have field : v.extractLsb' 3 4 = BitVec.ofNat 4 (v.toNat / 8) :=
    congrArg (BitVec.ofNat 4) (Nat.shiftRight_eq_div_pow v.toNat 3)
  rw [busWrite_io s 0xFF41 v (by decide) (by decide), ← field]
  rfl

/-- Settles O51: each PPU register is one register of the I/O block, and STAT's byte is composed of four fields. -/
theorem ppuRegistersOnBus : Obligations.PpuRegistersOnBus := by
  refine ⟨⟨rfl, rfl, rfl, rfl⟩, fun s joy v => ?_⟩
  have write := fun a => busWrite_io s a v
  have read := busRead_io joy s
  exact ⟨busWrite_stat s v, (congrArg BitVec.toNat (read 0xFF41 (by decide) (by decide))).trans (statByte_toNat s.ppu),
    write 0xFF44 (by decide) (by decide), read 0xFF44 (by decide) (by decide),
    write 0xFF40 (by decide) (by decide), read 0xFF40 (by decide) (by decide),
    write 0xFF42 (by decide) (by decide), read 0xFF42 (by decide) (by decide),
    write 0xFF43 (by decide) (by decide), read 0xFF43 (by decide) (by decide),
    write 0xFF45 (by decide) (by decide), read 0xFF45 (by decide) (by decide),
    write 0xFF47 (by decide) (by decide), read 0xFF47 (by decide) (by decide),
    write 0xFF48 (by decide) (by decide), read 0xFF48 (by decide) (by decide),
    write 0xFF49 (by decide) (by decide), read 0xFF49 (by decide) (by decide),
    write 0xFF4A (by decide) (by decide), read 0xFF4A (by decide) (by decide),
    write 0xFF4B (by decide) (by decide), read 0xFF4B (by decide) (by decide)⟩

end Sys2Proof.Proofs
end

section
/-! Proofs, family 60_exceptions.md: the timer's advance. -/

namespace Sys2Proof.Proofs

open Sys2Proof.Machine Sys2Proof.Laws

/-! ### Whole turns and the rest -/

/-- The turns of `a` cycles and then of `n` more on what they leave are those of all of them. -/
theorem turns_add (a n p : Nat) (hp : 0 < p) : (a + n) / p = a / p + (a % p + n) / p := by
  have split : a + n = a % p + n + p * (a / p) := by have := Nat.mod_add_div a p; omega
  rw [split, Nat.add_mul_div_left _ _ hp, Nat.add_comm]

theorem byte_succ_toNat {v : Byte} (h : v ≠ 0xFF) : v.toNat + 1 ≤ 255 ∧ (v + 1).toNat = v.toNat + 1 := by
  bv_omega

/-! ### The divider (R222) -/

/-- DIV and its accumulator count the cycles together, as one number of 16 bits. -/
theorem advanceDiv_count (t : Timer) (n : Nat) :
    ((t.advanceDiv n).div.toNat * 256 + (t.advanceDiv n).divAcc) % 65536 = (t.div.toNat * 256 + t.divAcc + n) % 65536 := by
  simp only [Timer.advanceDiv, BitVec.toNat_add, BitVec.toNat_ofNat]
  omega

theorem advanceDiv_advanceDiv (t : Timer) (m n : Nat) : (t.advanceDiv m).advanceDiv n = t.advanceDiv (m + n) := by
  have turns : (t.divAcc + (m + n)) / 256 = (t.divAcc + m) / 256 + ((t.divAcc + m) % 256 + n) / 256 := by omega
  have rest : ((t.divAcc + m) % 256 + n) % 256 = (t.divAcc + (m + n)) % 256 := by omega
  simp only [Timer.advanceDiv, turns, rest, BitVec.ofNat_add, BitVec.add_assoc]

/-! ### The counter's increments (R223, R224) -/

/-- Increments and the divider do not see each other. -/
theorem incTima_advanceDiv (t : Timer) (k n : Nat) :
    Timer.incTima (t.advanceDiv n) k = ((Timer.incTima t k).1.advanceDiv n, (Timer.incTima t k).2) := by
  induction k generalizing t with
  | zero => rfl
  | succ k ih =>
    simp only [Timer.incTima, show (t.advanceDiv n).tima = t.tima from rfl]
    split
    · exact congrArg (fun r : Timer × Bool => (r.1, true)) (ih { t with tima := t.tma })
    · exact ih { t with tima := t.tima + 1 }

/-- Increments do not see the accumulator. -/
theorem incTima_withAcc (t : Timer) (k c : Nat) : Timer.incTima { t with timaAcc := c } k =
    ({ (Timer.incTima t k).1 with timaAcc := c }, (Timer.incTima t k).2) := by
  induction k generalizing t with
  | zero => rfl
  | succ k ih =>
    simp only [Timer.incTima]
    split
    · exact congrArg (fun r : Timer × Bool => (r.1, true)) (ih { t with tima := t.tma })
    · exact ih { t with tima := t.tima + 1 }

/-- `j` increments and then `k` are `j + k`, which overflow if the first do or the others. -/
theorem incTima_add (t : Timer) (j k : Nat) : Timer.incTima t (j + k) =
    ((Timer.incTima (Timer.incTima t j).1 k).1, (Timer.incTima t j).2 || (Timer.incTima (Timer.incTima t j).1 k).2) := by
  induction j generalizing t with
  | zero => simp only [Timer.incTima, Nat.zero_add, Bool.false_or]
  | succ j ih =>
    rw [Nat.succ_add]
    simp only [Timer.incTima]
    split
    · rw [ih, Bool.true_or]
    · exact ih { t with tima := t.tima + 1 }

/-! ### The advance (R222 to R224) -/

/-- The counter and the divider do not see each other. -/
theorem advanceTima_advanceDiv (t : Timer) (m n : Nat) :
    (t.advanceDiv n).advanceTima m = ((t.advanceTima m).1.advanceDiv n, (t.advanceTima m).2) := by
  simp only [Timer.advanceTima, show (t.advanceDiv n).enabled = t.enabled from rfl]
  split
  · exact incTima_advanceDiv { t with timaAcc := (t.timaAcc + m) % t.period } _ n
  · rfl

/-- `m` cycles of the counter and then `n` are `m + n`, which overflow if the first do or the others. -/
theorem advanceTima_add (t : Timer) (m n : Nat) : t.advanceTima (m + n) =
    (((t.advanceTima m).1.advanceTima n).1, (t.advanceTima m).2 || ((t.advanceTima m).1.advanceTima n).2) := by
  cases on : t.enabled with
  | false => simp only [Timer.advanceTima, on, Bool.false_eq_true, if_false, Bool.false_or]
  | true =>
    obtain ⟨v, hv⟩ := incTima_shape t ((t.timaAcc + m) / t.period)
    have first : t.advanceTima m = ({ t with tima := v, timaAcc := (t.timaAcc + m) % t.period },
        (Timer.incTima t ((t.timaAcc + m) / t.period)).2) := by
      rw [Timer.advanceTima, if_pos on, incTima_withAcc, hv]
    have still : Timer.enabled { t with tima := v, timaAcc := (t.timaAcc + m) % t.period } = true := on
    have all : t.advanceTima (m + n) =
        Timer.incTima { t with timaAcc := ((t.timaAcc + m) % t.period + n) % t.period }
          ((t.timaAcc + m) / t.period + ((t.timaAcc + m) % t.period + n) / t.period) := by
      rw [Timer.advanceTima, if_pos on, ← Nat.add_assoc, turns_add _ _ _ (period_pos t), Nat.mod_add_mod]
    rw [all, first, incTima_add, incTima_withAcc t, hv]
    simp only [Timer.advanceTima, if_pos still]
    rfl

/-- The advance of the whole state, from the timer's alone. -/
theorem timerAdvance_eq {n : Nat} {s : State} {t : Timer} {overflowed : Bool}
    (h : (s.timer.advanceDiv n).advanceTima n = (t, overflowed)) : timerAdvance n s =
      { s with timer := t, irq := { s.irq with request := s.irq.request ||| if overflowed then 0b00100 else 0 } } := by
  simp only [timerAdvance, h]
  cases overflowed
  · simp only [Bool.false_eq_true, if_false, BitVec.ofNat_eq_ofNat, BitVec.or_zero]
  · rfl

/-- The periods of TAC[1:0] (10_state.md R24). -/
theorem period_eq (t : Timer) : [1024, 16, 64, 256][t.tac.toNat % 4]? = some t.period := by
  unfold Timer.period
  generalize t.tac = c
  revert c
  decide

/-- While TAC[2] is 0 only the divider advances. -/
theorem timerAdvance_disabled (n : Nat) {s : State} (h : s.timer.tac.getLsbD 2 = false) :
    timerAdvance n s = { s with timer := s.timer.advanceDiv n } := by
  have off : (s.timer.advanceDiv n).enabled = false := h
  simp only [timerAdvance, Timer.advanceTima, off, Bool.false_eq_true, if_false]

/-- What the advance makes of TIMA, its accumulator and IF while TAC[2] is 1. -/
theorem timerAdvance_counts (n : Nat) {s : State} (h : s.timer.tac.getLsbD 2 = true) :
    let t := timerAdvance n s
    let total := s.timer.tima.toNat + (s.timer.timaAcc + n) / s.timer.period
    t.timer.timaAcc = (s.timer.timaAcc + n) % s.timer.period
      ∧ (total ≤ 255 → t.timer.tima.toNat = total ∧ t.irq = s.irq)
      ∧ (255 < total → t.timer.tima.toNat = s.timer.tma.toNat + (total - 256) % (256 - s.timer.tma.toNat)
          ∧ t.irq.request = s.irq.request ||| 0b00100) := by
  intro t total
  obtain ⟨htimer, hirq⟩ := timerAdvance_enabled n s h
  obtain ⟨fits, wraps⟩ := incTima_tima { s.timer.advanceDiv n with timaAcc := (s.timer.timaAcc + n) % s.timer.period }
    ((s.timer.timaAcc + n) / s.timer.period)
  refine ⟨?_, fun htotal => ?_, fun htotal => ?_⟩
  · rw [htimer, incTima_withAcc]
  · obtain ⟨htima, hover⟩ := fits htotal
    exact ⟨(congrArg (fun t => t.tima.toNat) htimer).trans htima, hirq.trans (by rw [hover]; rfl)⟩
  · obtain ⟨htima, hover⟩ := wraps htotal
    exact ⟨(congrArg (fun t => t.tima.toNat) htimer).trans htima, by rw [hirq, hover]; rfl⟩

/-- Settles O54: the special clauses are the general one with no increment, and with one. -/
theorem timerAdvanceRules : Obligations.TimerAdvanceRules := by
  intro n s
  obtain ⟨v, acc, r, e⟩ := timerAdvance_shape n s
  refine ⟨?_, ?_, period_eq s.timer, by rw [e], by rw [e], by rw [e]; rfl, by rw [e]; rfl, fun off => ?_,
    fun on hfew => ?_, fun on hone hff => ?_, fun on hone hff => ?_, timerAdvance_counts n⟩
  · rw [e]
    exact advanceDiv_count s.timer n
  · rw [e]
    exact Nat.mod_lt _ (by decide)
  · rw [timerAdvance_disabled n off]
    exact ⟨rfl, rfl, rfl⟩
  · obtain ⟨hacc, fits, -⟩ := timerAdvance_counts n on
    rw [Nat.div_eq_of_lt hfew, Nat.add_zero] at fits
    obtain ⟨htima, hirq⟩ := fits (Nat.le_of_lt_succ (byte_lt _))
    exact ⟨BitVec.eq_of_toNat_eq htima, hacc.trans (Nat.mod_eq_of_lt hfew), hirq⟩
  · obtain ⟨hacc, fits, -⟩ := timerAdvance_counts n on
    obtain ⟨hle, hsucc⟩ := byte_succ_toNat hff
    rw [hone, Nat.div_self (period_pos _)] at fits
    obtain ⟨htima, hirq⟩ := fits hle
    exact ⟨BitVec.eq_of_toNat_eq (htima.trans hsucc.symm), by rw [hacc, hone, Nat.mod_self], hirq⟩
  · obtain ⟨hacc, -, wraps⟩ := timerAdvance_counts n on
    have total : s.timer.tima.toNat + 1 = 256 := by rw [hff]; rfl
    rw [hone, Nat.div_self (period_pos _), total] at wraps
    obtain ⟨htima, hirq⟩ := wraps (by decide)
    rw [Nat.sub_self, Nat.zero_mod, Nat.add_zero] at htima
    exact ⟨BitVec.eq_of_toNat_eq htima, by rw [hacc, hone, Nat.mod_self], hirq⟩

/-- Settles O55: both parts of the timer add up without seeing each other, and a second request changes nothing. -/
theorem timerAdvancesAddUp : Obligations.TimerAdvancesAddUp := by
  intro m n s
  have apart := advanceTima_advanceDiv (s.timer.advanceDiv m) m n
  have both := advanceTima_add (s.timer.advanceDiv (m + n)) m n
  rw [← advanceDiv_advanceDiv, apart, advanceDiv_advanceDiv] at both
  rcases hfirst : (s.timer.advanceDiv m).advanceTima m with ⟨t, over₁⟩
  rw [hfirst] at both
  rcases hsecond : (t.advanceDiv n).advanceTima n with ⟨u, over₂⟩
  rw [hsecond] at both
  have once : s.irq.request ||| (if over₁ then 0b00100 else 0) ||| (if over₂ then 0b00100 else 0) =
      s.irq.request ||| if over₁ || over₂ then 0b00100 else 0 := by
    cases over₁ <;> cases over₂ <;> simp [BitVec.or_assoc]
  rw [timerAdvance_eq hfirst, timerAdvance_eq (s := { s with timer := t, irq := _ }) hsecond, timerAdvance_eq both, ← once]

/-- Settles O56: 256 periods are a total of 256 increments, the first that does not fit in TIMA; fewer cycles are fewer. -/
theorem timerOverflowsAfter256Periods : Obligations.TimerOverflowsAfter256Periods := by
  intro s on htima hacc
  have zero : s.timer.tima.toNat = 0 := by rw [htima]; rfl
  have counts := fun n => timerAdvance_counts n on
  simp only [zero, hacc, Nat.zero_add] at counts
  refine ⟨fun n hn => ?_, ?_⟩
  · obtain ⟨-, fits, -⟩ := counts n
    have few : n / s.timer.period < 256 := Nat.div_lt_of_lt_mul (by rwa [Nat.mul_comm])
    obtain ⟨hcount, hirq⟩ := fits (Nat.le_of_lt_succ few)
    exact ⟨hirq, BitVec.eq_of_toNat_eq (by rw [hcount, BitVec.toNat_ofNat, Nat.mod_eq_of_lt few])⟩
  · obtain ⟨hrest, -, wraps⟩ := counts (256 * s.timer.period)
    rw [Nat.mul_div_cancel _ (period_pos _)] at wraps
    obtain ⟨hcount, hirq⟩ := wraps (by decide)
    exact ⟨BitVec.eq_of_toNat_eq (by rw [hcount, Nat.sub_self, Nat.zero_mod, Nat.add_zero]),
      hrest.trans (Nat.mul_mod_left _ _), hirq⟩

end Sys2Proof.Proofs
end

section
/-! Proofs, family 60_exceptions.md: the PPU's position, modes and requests. -/

namespace Sys2Proof.Proofs

open Sys2Proof.Machine Sys2Proof.Laws

/-! ### What one tick does to the position (R226) -/

/-- The three moves of a tick: to the next dot, to the next line, to the next frame. -/
inductive Moves (p : Ppu) : Ppu → Prop
  | nextDot (hdot : p.dot + 1 ≠ 456) : Moves p { p with dot := p.dot + 1 }
  | nextLine (hdot : p.dot + 1 = 456) (hly : p.ly.toNat < 153) : Moves p (Ppu.lineStart { p with dot := 0, ly := p.ly + 1 })
  | nextFrame (hdot : p.dot + 1 = 456) (hly : p.ly = 153) :
      Moves p (Ppu.lineStart { p with dot := 0, ly := 0, frames := p.frames + 1 })

theorem positionOk_iff (p : Ppu) : p.positionOk = true ↔
    p.ly.toNat < 154 ∧ p.dot < 456 ∧ 172 ≤ p.mode3Len ∧ p.mode3Len ≤ 289 := by
  simp [Ppu.positionOk, and_assoc]

/-- A tick from a position in range makes one of the three moves. -/
theorem moves_move {p : Ppu} (h : p.positionOk = true) : Moves p p.move := by
  obtain ⟨hly, -, -, -⟩ := (positionOk_iff p).mp h
  unfold Ppu.move
  split
  case isFalse hdot => exact .nextDot hdot
  case isTrue hdot =>
    unfold Ppu.nextLine
    split
    case isTrue hlast => exact .nextFrame hdot (by bv_omega)
    case isFalse hmore => exact .nextLine hdot (by bv_omega)

/-! ### The length of a frame (R227) -/

/-- The position as the number of dots since the start of the frame. -/
def frameDot (p : Ppu) : Nat :=
  p.ly.toNat * 456 + p.dot

theorem frameDot_lt {p : Ppu} (h : p.positionOk = true) : frameDot p < 70224 := by
  obtain ⟨hly, hdot, -, -⟩ := (positionOk_iff p).mp h
  unfold frameDot
  omega

/-- A tick counts one dot; the last one of a frame completes it. -/
theorem Moves.frameDot_eq {p q : Ppu} (h : Moves p q) (hp : p.positionOk = true) :
    frameDot q = (frameDot p + 1) % 70224 ∧ q.frames = p.frames + (frameDot p + 1) / 70224 := by
  have hlt := frameDot_lt hp
  obtain ⟨hly, hrange, -, -⟩ := (positionOk_iff p).mp hp
  unfold frameDot at hlt ⊢
  cases h with
  | nextDot hdot =>
    dsimp only
    omega
  | nextLine hdot hline =>
    have next : (p.ly + 1).toNat = p.ly.toNat + 1 := by bv_omega
    dsimp only [Ppu.lineStart]
    omega
  | nextFrame hdot hlast =>
    have last : p.ly.toNat = 153 := congrArg BitVec.toNat hlast
    have zero : (0 : Byte).toNat = 0 := rfl
    dsimp only [Ppu.lineStart]
    omega

theorem ppuTick_ppu (x : PpuIrq) : (ppuTick x).ppu = x.ppu.move := rfl

/-- Ticks count one dot each, and complete a frame every 70224 of them. -/
theorem ppuTicks_frameDot (n : Nat) {x : PpuIrq} (hx : x.ppu.positionOk = true) :
    frameDot (ppuTicks n x).ppu = (frameDot x.ppu + n) % 70224
      ∧ (ppuTicks n x).ppu.frames = x.ppu.frames + (frameDot x.ppu + n) / 70224 := by
  induction n generalizing x with
  | zero =>
    have hlt := frameDot_lt hx
    rw [Nat.add_zero, Nat.mod_eq_of_lt hlt, Nat.div_eq_of_lt hlt]
    exact ⟨rfl, rfl⟩
  | succ n ih =>
    obtain ⟨htick, hframe⟩ := (moves_move hx).frameDot_eq hx
    obtain ⟨hrest, hframes⟩ := ih (x := ppuTick x) (move_positionOk _ hx)
    rw [ppuTick_ppu, htick] at hrest hframes
    rw [hframe] at hframes
    rw [ppuTicks, hrest, hframes]
    omega

/-- The dot of the frame gives the line and the dot of the line back. -/
theorem eq_of_frameDot_eq {p q : Ppu} (hp : p.positionOk = true) (hq : q.positionOk = true)
    (h : frameDot p = frameDot q) : p.ly = q.ly ∧ p.dot = q.dot := by
  obtain ⟨-, hpdot, -, -⟩ := (positionOk_iff p).mp hp
  obtain ⟨-, hqdot, -, -⟩ := (positionOk_iff q).mp hq
  unfold frameDot at h
  have hly : p.ly.toNat = q.ly.toNat := by omega
  exact ⟨BitVec.eq_of_toNat_eq hly, by omega⟩

/-- The ticks of a whole frame come back to its dot, with one more frame counted. -/
theorem ppuTicks_wholeFrame {n : Nat} (hn : n = 70224) {x : PpuIrq} (hx : x.ppu.positionOk = true) :
    (ppuTicks n x).ppu.ly = x.ppu.ly ∧ (ppuTicks n x).ppu.dot = x.ppu.dot
      ∧ (ppuTicks n x).ppu.frames = x.ppu.frames + 1 := by
  have hlt := frameDot_lt hx
  obtain ⟨hdot, hframes⟩ := ppuTicks_frameDot n hx
  have back : (frameDot x.ppu + n) % 70224 = frameDot x.ppu := by omega
  have one : (frameDot x.ppu + n) / 70224 = 1 := by omega
  rw [back] at hdot
  rw [one] at hframes
  obtain ⟨sameLine, sameDot⟩ := eq_of_frameDot_eq (ppuTicks_positionOk n x hx) hx hdot
  exact ⟨sameLine, sameDot, hframes⟩

/-- Settles O57: the dot of the frame counts the ticks, modulo the frame's length. -/
theorem frameIs70224Cycles : Obligations.FrameIs70224Cycles := fun x hx =>
  ⟨fun n =>
    have counts := ppuTicks_frameDot n hx
    ⟨counts.1, counts.2, ppuTicks_positionOk n x hx⟩,
    ppuTicks_wholeFrame rfl hx⟩

/-! ### Modes and requests (R226, R228, R229) -/

theorem mode_eq_vblank_iff (p : Ppu) : p.mode = .vblank ↔ p.inVblank = true := by
  unfold Ppu.mode
  split
  · simp [*]
  · split
    · simp [*]
    · split <;> simp [*]

theorem enters_eq (m : PpuMode) (old new : Ppu) : enters m old new = decide (new.mode = m ∧ old.mode ≠ m) := by
  simp [enters, beq_eq_decide, bne]

theorem entersVblank_eq (old new : Ppu) : entersVblank old new = decide (new.mode = .vblank ∧ old.mode ≠ .vblank) := by
  simp [entersVblank, mode_eq_vblank_iff]

/-- The mode, as R226 gives it. -/
theorem mode_eq (p : Ppu) : p.mode = if 144 ≤ p.ly.toNat then .vblank else if p.dot < 80 then .oamSearch
    else if p.dot < 80 + p.mode3Len then .transfer else .hblank := by
  simp only [Ppu.mode, Ppu.inVblank, decide_eq_true_eq, Nat.add_comm 80]

/-- V-blank is entered at the start of line 144 alone. -/
theorem Moves.entersVblank_at_line_144 {p q : Ppu} (h : Moves p q) : entersVblank p q = decide (q.ly = 144 ∧ q.dot = 0) := by
  unfold entersVblank Ppu.inVblank
  rw [← decide_not, ← Bool.decide_and]
  refine decide_eq_decide.mpr ?_
  cases h with
  | nextDot => exact iff_of_false (fun ⟨after, before⟩ => before after) (fun ⟨_, zero⟩ => Nat.succ_ne_zero _ zero)
  | nextLine hdot hly =>
    have entry : 144 ≤ (p.ly + 1).toNat ∧ ¬ 144 ≤ p.ly.toNat ↔ p.ly + 1 = 144 := by bv_omega
    exact entry.trans (and_iff_left rfl).symm
  | nextFrame =>
    have notLate : ¬ 144 ≤ (0 : Byte).toNat := by decide
    have notEntry : (0 : Byte) ≠ 144 := by decide
    exact iff_of_false (fun ⟨after, _⟩ => notLate after) (fun ⟨line, _⟩ => notEntry line)

/-- A tick starts a line exactly when it fills the line before. -/
theorem Moves.dot_eq_zero_iff {p q : Ppu} (h : Moves p q) : q.dot = 0 ↔ p.dot + 1 = 456 := by
  cases h with
  | nextDot hdot => exact iff_of_false (Nat.succ_ne_zero _) hdot
  | nextLine hdot | nextFrame hdot => exact iff_of_true rfl hdot

/-- A line start sets STAT[2], and nothing else does. -/
theorem Moves.lycMatch {p q : Ppu} (h : Moves p q) :
    q.lycMatch = if q.dot = 0 then decide (q.ly = q.lyc) else p.lycMatch := by
  cases h with
  | nextDot => rfl
  | nextLine | nextFrame => exact beq_eq_decide _ _

theorem lineStart_mode3Len (p : Ppu) (hdot : p.dot = 0) : p.lineStart.mode3Len =
    if p.dot = 0 ∧ p.ly.toNat < 144 then mode3Draw p.frames p.ly.toNat else p.mode3Len := by
  by_cases hly : p.ly.toNat < 144
  · rw [if_pos ⟨hdot, hly⟩]
    exact if_neg (by simpa [Ppu.inVblank] using hly)
  · rw [if_neg fun h => hly h.2]
    exact if_pos (by simpa [Ppu.inVblank] using hly)

/-- The start of a visible line draws the pixel-transfer length, and nothing else does. -/
theorem Moves.mode3Len {p q : Ppu} (h : Moves p q) :
    q.mode3Len = if q.dot = 0 ∧ q.ly.toNat < 144 then mode3Draw q.frames q.ly.toNat else p.mode3Len := by
  cases h with
  | nextDot => exact (if_neg fun ⟨zero, _⟩ => Nat.succ_ne_zero _ zero).symm
  | nextLine | nextFrame => exact lineStart_mode3Len _ rfl

/-- LCD-status is requested on an enabled entry to mode 0, 1 or 2, or by LY = LYC at a line start. -/
theorem Moves.statRequest_eq {p q : Ppu} (h : Moves p q) : statRequest p q =
    ((q.statEnable.getLsbD 0 && decide (q.mode = .hblank ∧ p.mode ≠ .hblank))
      || (q.statEnable.getLsbD 1 && decide (q.mode = .vblank ∧ p.mode ≠ .vblank))
      || (q.statEnable.getLsbD 2 && decide (q.mode = .oamSearch ∧ p.mode ≠ .oamSearch))
      || (q.statEnable.getLsbD 3 && decide (q.dot = 0 ∧ q.ly = q.lyc))) := by
  have coincidence : (decide (p.dot + 1 = 456) && q.lycMatch) = decide (q.dot = 0 ∧ q.ly = q.lyc) := by
    have start : decide (p.dot + 1 = 456) = decide (q.dot = 0) := decide_eq_decide.mpr h.dot_eq_zero_iff.symm
    rw [h.lycMatch, start]
    by_cases hdot : q.dot = 0 <;> simp [hdot]
  rw [statRequest, enters_eq, enters_eq, entersVblank_eq, coincidence]

/-- A tick keeps every register but the position's. -/
theorem Moves.kept {p q : Ppu} (h : Moves p q) :
    { q with ly := p.ly, dot := p.dot, frames := p.frames, mode3Len := p.mode3Len, lycMatch := p.lycMatch } = p := by
  cases h <;> rfl

/-- The bits that a request sets: the source's own, if the request is made. -/
theorem requested_getLsbD (made : Bool) (k : IrqSource) (j : Nat) :
    (if made then k.mask else 0).getLsbD j = (made && decide (j = k.bit)) := by
  cases made with
  | false => exact BitVec.getLsbD_zero
  | true => exact mask_getLsbD k j

/-- Settles O58: a tick makes one of three moves, and sets the bits of the requests that the move makes. -/
theorem ppuRequests : Obligations.PpuRequests := by
  intro x hx
  have h : Moves x.ppu (ppuTick x).ppu := moves_move hx
  have bits : ∀ j, (ppuTick x).request.getLsbD j = (x.request.getLsbD j
      || (entersVblank x.ppu (ppuTick x).ppu && decide (j = 0))
      || (statRequest x.ppu (ppuTick x).ppu && decide (j = 1))) := fun j => by
    simp only [ppuTick, BitVec.getLsbD_or, requested_getLsbD, IrqSource.bit]
    rfl
  refine ⟨mode_eq _, ?_, ?_, fun j hj => ?_, h.lycMatch, h.mode3Len, h.kept⟩
  · rw [bits, h.entersVblank_at_line_144]
    simp
  · rw [bits, h.statRequest_eq]
    simp [Bool.or_assoc]
  · have not0 : j ≠ 0 := by omega
    have not1 : j ≠ 1 := by omega
    simp [bits, not0, not1]

end Sys2Proof.Proofs
end
